-- ==== Sys2Proof/Word.lean ====
section
/-!
DEFINITION. The words of the station link and the numbered fours of the forecourt: bytes and words sent on the
line (section 1.8, R17), the numbers 1 to 4 that name dispensers and banks (00_scope 3.3), and a record of four
equal parts indexed by them.
-/

namespace Sys2Proof

/-- One byte of the station link (R1). -/
abbrev Byte := BitVec 8

/-- Two bytes sent most significant first (R17). -/
abbrev Half := BitVec 16

/-- Four bytes sent most significant first (R17); also the station clock (R14). -/
abbrev Word := BitVec 32

/-- The number of a dispenser or of a bank, 1 to 4 (00_scope 3.3). -/
inductive Four where
  | one | two | three | four
deriving DecidableEq, Repr

/-- The number itself. -/
def Four.num : Four → Nat
  | .one => 1 | .two => 2 | .three => 3 | .four => 4

/-- All four numbers, in order. -/
def Four.all : List Four := [.one, .two, .three, .four]

/-- The member of the four that a number names, if any. -/
def Four.ofNat? : Nat → Option Four
  | 1 => some .one | 2 => some .two | 3 => some .three | 4 => some .four
  | _ => none

/-- Four equal records, one for each dispenser or bank. -/
structure Quad (α : Type) where
  one : α
  two : α
  three : α
  four : α
deriving DecidableEq, Repr

namespace Quad

variable {α β : Type}

/-- The record of number `i`. -/
def get (q : Quad α) : Four → α
  | .one => q.one | .two => q.two | .three => q.three | .four => q.four

/-- The four records with that of number `i` replaced. -/
def set (q : Quad α) (i : Four) (a : α) : Quad α :=
  match i with
  | .one => { q with one := a } | .two => { q with two := a }
  | .three => { q with three := a } | .four => { q with four := a }

/-- The four records with that of number `i` changed by `f`. -/
def modify (q : Quad α) (i : Four) (f : α → α) : Quad α := q.set i (f (q.get i))

/-- Four copies of one record. -/
def fill (a : α) : Quad α := ⟨a, a, a, a⟩

/-- Every record changed by `f`. -/
def map (f : α → β) (q : Quad α) : Quad β := ⟨f q.one, f q.two, f q.three, f q.four⟩

/-- The four records in order of their numbers. -/
def toList (q : Quad α) : List α := [q.one, q.two, q.three, q.four]

end Quad

end Sys2Proof
end

