-- ==== Sys2Proof/Syntax.lean ====
section
/-!
DEFINITION. The commands of the block: one constructor for each row of opcode_table.json, with the operands that the
rules give it. A request carries its TAG and its body fields at the widths of R6, out-of-range values included.
-/

namespace Sys2Proof

/-- A frame as it completes on the station link (R1, section 1.8): LENGTH is the length of `body`. -/
structure Frame where
  kind : Byte
  tag : Byte
  body : List Byte
  crc : Half
deriving DecidableEq, Repr

/-- The body of AUTHORIZE (section 1.8). -/
structure AuthorizeBody where
  disp : Byte
  tariff : Byte
  limitKind : Byte
  limitValue : Word
  selection : Byte
  classNo : Byte
  fallbackKind : Byte
  unused : Byte
  capacity : Half
  factor : Byte
deriving DecidableEq, Repr

/-- The 19 analog channels (R18). -/
inductive Channel where
  | primary (d : Four)
  | secondary (d : Four)
  | outlet (d : Four)
  | bank (b : Four)
  | supply
  | ambient
  | precoolOutlet
deriving DecidableEq, Repr

/-- The 15 switch inputs (section 2.3). -/
inductive Switch where
  | holder (d : Four)
  | startButton (d : Four)
  | stopButton (d : Four)
  | esd
  | gasAlarm
  | sealIn
deriving DecidableEq, Repr

/-- The 24 on/off valves (section 2.4.1). -/
inductive Valve where
  | bv (b d : Four)
  | cv (b : Four)
  | dv (d : Four)
deriving DecidableEq, Repr

/-- An input with a contact: a switch, a valve's position feedback or the compressor's running feedback. -/
inductive Input where
  | switch (w : Switch)
  | feedback (v : Valve)
  | running
deriving DecidableEq, Repr

/-- A contact's level. A closed contact reads IN, pressed, inactive, SEALED (table of section 2.3), valve position
CLOSED and motor running (Log 25); an open one OUT, released, active, OPEN, valve position OPEN and motor stopped. -/
inductive Level where
  | closed | opened
deriving DecidableEq, Repr

/-- The two converters (section 2.1). -/
inductive Converter where
  | a | b
deriving DecidableEq, Repr

/-- The commands, one for each row of opcode_table.json. -/
inductive Instr where
  -- the station link
  | frameReceived (f : Frame)
  | linkByteReceived (b : Byte)
  | interByteGapTimeout
  | replySent
  | linkTimerExpiry
  | clockTick
  -- requests
  | status (tag : Byte)
  | notice (tag : Byte)
  | time (tag : Byte) (value : Word)
  | linkset (tag timeout action : Byte)
  | reset (tag force : Byte)
  | resume (tag : Byte)
  | actset (tag cause enable : Byte)
  | selftest (tag : Byte)
  | cfgwrite (tag group index item : Byte) (value : Word)
  | cfgread (tag group index item : Byte)
  | cfgsave (tag : Byte)
  | tariffWrite (tag code : Byte) (hp mp : Word)
  | authorize (tag : Byte) (body : AuthorizeBody)
  | cancel (tag disp : Byte)
  | stop (tag disp : Byte)
  | openDispenser (tag disp : Byte)
  | closeDispenser (tag disp : Byte)
  | clear (tag disp : Byte)
  | readdisp (tag disp : Byte)
  | refill (tag bank priority : Byte)
  | isolate (tag bank : Byte)
  | restore (tag bank : Byte)
  | compressorOn (tag : Byte)
  | compressorOff (tag : Byte)
  | readbank (tag bank : Byte)
  | readprecool (tag : Byte)
  | lognext (tag : Byte)
  | logget (tag : Byte) (number : Word)
  | settle (tag : Byte) (number : Word)
  | calOpen (tag : Byte)
  | calWrite (tag disp : Byte) (factor : Half)
  | calClose (tag : Byte)
  | calRead (tag : Byte)
  | readstats (tag source number : Byte)
  -- stores to nonvolatile memory
  | cfgsaveStoreComplete
  | calCloseStoreComplete
  | checkpointStoreComplete (d : Four)
  | logEntryStoreComplete
  | logRecoveryStoreComplete
  -- the field interface
  | analogSample (c : Channel) (current : Nat)
  | channelHoldExpiry (c : Channel)
  | meterPulse (d : Four)
  | switchLevelChange (i : Input) (l : Level)
  | debounceExpiry (w : Switch)
  | valveFeedbackSettled (v : Valve)
  | valveTravelExpiry (v : Valve)
  | compressorFeedbackSettled
  | referenceSweepStep (c : Converter) (current : Nat)
  | sweepValveWaitExpiry
  -- banks and the compressor
  | bankWaitExpiry (d : Four)
  | drawWindowCheckExpiry (b : Four)
  | deferralTimerExpiry
  | spinUpExpiry
  | progressTimerExpiry
  | switchTimerExpiry
  | runDownExpiry
  | restTimerExpiry
  | mismatchTimerExpiry
  -- precooling and vehicle reports
  | thermalUpdate
  | precoolWaitExpiry (d : Four)
  | vehicleReportFrame (d : Four) (bytes : List Byte)
  | freshnessTimerExpiry (d : Four)
  -- the fill
  | authorizationTimerExpiry (d : Four)
  | pulseTimerExpiry (d : Four)
  | connectionSettleExpiry (d : Four)
  | leakHoldExpiry (d : Four)
  | rampStep (d : Four)
  | fillTimeExpiry (d : Four)
  | overshootTimerExpiry (d : Four)
  | haltTimerExpiry (d : Four)
  | endingSettleExpiry (d : Four)
  | flowTimerExpiry
  -- resets
  | powerOn
  | resetLine
  | stationReset
deriving DecidableEq, Repr

end Sys2Proof
end

