-- ==== Sys2Proof/Config.lean ====
section
/-!
DEFINITION. The types of the working configuration (R188 and the group tables of R35, R37, R77, R95, R107, R139,
R153), and the constants that the specification leaves open: each of them is opaque, so nothing can be proved of its
value.
-/

namespace Sys2Proof

/-- The nozzle type of a dispenser: high pressure (cars) or medium pressure (buses) (R107). -/
inductive Nozzle where
  | hp | mp
deriving DecidableEq, Repr

/-- The grades of precooling, best to worst; U is for medium pressure only (section 5.3). -/
inductive Grade where
  | a | b | c | u
deriving DecidableEq, Repr

/-- The link action (R11): HOLD or STOP. -/
inductive LinkAction where
  | hold | stop
deriving DecidableEq, Repr

/-- The SITE group (R188), with the shutdown enables of fault causes 2 to 6; ESD's enable is always 1 (R181). -/
structure SiteCfg where
  linkTimeout : Nat
  linkAction : LinkAction
  dPMin : Nat
  dPSwitch : Nat
  lagLimit : Nat
  bankWait : Nat
  startLimit : Nat
  socComm : Nat
  socNc : Nat
  authTimeout : Nat
  leakHold : Nat
  leakDrop : Nat
  hpFillTime : Nat
  mpFillTime : Nat
  tRef : Nat
  closeAhead : Nat
  hpMax : Nat
  mpMax : Nat
  enGas : Bool
  enValve : Bool
  enOver : Bool
  enMetro : Bool
  enComp : Bool
deriving DecidableEq, Repr

/-- The BANK group of one bank (R35). -/
structure BankCfg where
  rank : Nat
  rated : Nat
  massFactor : Nat
  refillOn : Nat
  refillTarget : Nat
  priority : Nat
  pMin : Nat
deriving DecidableEq, Repr

/-- The DISPENSER group of one dispenser (R107, R37). -/
structure DispCfg where
  nozzle : Nozzle
  cascade : List Four
  openAtStart : Bool
deriving DecidableEq, Repr

/-- The configured figures of one of the grades A, B, C (R77). -/
structure GradeCfg where
  tPc : Int
  tLim : Int
  floor : Nat
deriving DecidableEq, Repr

/-- The PRECOOL group (R77). -/
structure PrecoolCfg where
  eMax : Nat
  stagePower : Nat
  loss : Nat
  cp : Nat
  waitLimit : Nat
  a : GradeCfg
  b : GradeCfg
  c : GradeCfg
deriving DecidableEq, Repr

/-- One row of the ramp table (R138, R139): R0, S and D. -/
structure RampRow where
  r0 : Nat
  slope : Nat
  rise : Nat
deriving DecidableEq, Repr

/-- The RAMP group, one row for each pair of nozzle type and grade (R139). -/
structure RampTable where
  hpA : RampRow
  hpB : RampRow
  hpC : RampRow
  mpA : RampRow
  mpB : RampRow
  mpC : RampRow
  mpU : RampRow
deriving DecidableEq, Repr

/-- An entry 1 to 15 of the vehicle class table (R95). -/
structure ClassEntry where
  present : Bool
  onHp : Bool
  onMp : Bool
  tankCode : Nat
  groupWidth : Nat
  capacity : Nat
  factor : Nat
  pCls : Option Nat
  soc : Option Nat
deriving DecidableEq, Repr

/-- Entry 0 of the vehicle class table, the generic entry: it holds only these three (R95). -/
structure GenericClass where
  factor : Nat
  pCls : Option Nat
  soc : Option Nat
deriving DecidableEq, Repr

/-- One tariff code: its HP and its MP price (R153). -/
structure Tariff where
  hp : Nat
  mp : Nat
deriving DecidableEq, Repr

/-- The working configuration: every group of R188. `classes` holds entries 1 to 15, `tariffs` codes 0 to 7. -/
structure WorkConfig where
  site : SiteCfg
  banks : Quad BankCfg
  disps : Quad DispCfg
  precool : PrecoolCfg
  ramp : RampTable
  generic : GenericClass
  classes : List ClassEntry
  tariffs : List Tariff
deriving DecidableEq, Repr

namespace Config

/-- The bytes of the configuration store image, in the order in which they are stored (R180). The specification gives
no layout for them, so the image is uninterpreted (Log 6). -/
opaque storeImage : WorkConfig → List Byte

/-- Where one grant both preempts a refill and hands a dispenser over, whether the compressor is told of the loss
before the release: either order may occur (12.2.2). A free value for each choice (Log 7). -/
opaque lossToldFirst : Nat → Bool

/-- What CFGREAD returns for an item that entry 0 of the class table does not hold (R96 answers the write, and R188
states no value for the read): a free value for each read (Log 8). -/
opaque entryZeroReads : Nat → Word

/-- The bytes of a report whose items the specification lists and whose layout it does not give (R15, R56, R75, R93,
R134, R163): a free value for each report (Log 18). -/
opaque reportBytes {α : Type} (report : α) : List Byte

end Config

end Sys2Proof
end

