-- ==== Sys2Proof/Machine/Blocks.lean ====
section
/-!
DEFINITION. The records that the ten blocks of the controller hold (00_scope section 2.1), as plain data: each type
cites the rule that names its parts. Section names are those of the specification's chapters.
-/

namespace Sys2Proof.Machine

/-- A timer: the milliseconds left while it runs, none while it is stopped (Log 3). -/
abbrev Timer := Option Nat

/-! ## The station link (chapter 1) -/

/-- The sources of notices (section 1.4). -/
inductive Source where
  | station
  | dispenser (d : Four)
  | bank (b : Four)
  | compressor
  | precool
deriving DecidableEq, Repr

/-- The notice kinds (section 1.4), in the order of their codes. -/
inductive NoticeKind where
  | fillEnd | dispenserFault | bankLow | refillDone | refillFailed | compressorFault | precoolGrade | precoolLow
  | logNearFull | logFull | valveFault | channelFault | meterCreep | linkTimeout | stationShutdown
  | stationResumed | sealChange | calAbandoned | startUpDone
deriving DecidableEq, Repr

/-- A notice as it stands in the queue (R8). The LOST flag is given when the notice is returned (R10). -/
structure Notice where
  kind : NoticeKind
  source : Source
  detail : Nat
  time : Word
  clockUnset : Bool
deriving DecidableEq, Repr

/-- The end causes, with the fault causes last (R126). -/
inductive Cause where
  | complete | socReached | limit | stopButton | nozzleIn | stationStop | timeLimit | vehicleAbort | vehicleHalt
  | tankHot | supplyExhausted | supplyWait | noPressure | noSupply | fullAtStart | ambient | precoolWait
  | authTimeout | cancelled | linkLost | shutdown | reset | powerLoss
  | leak | overpressure | control | sensor | valve | meterMismatch | precoolLost
deriving DecidableEq, Repr

/-- The result codes of a reply (R5). -/
inductive ResultCode where
  | ok | busy | unknownKind | badLength | badValue | notNow | refused | notFound | already | nothing
deriving DecidableEq, Repr

/-- The reasons carried in DETAIL (R5). -/
inductive Reason where
  | state | starting | nozzle | filling | compressor | latched | isolated | sealed | openEntry | auditFull
  | notCalibrating | shutdown | calibrating | metrology | logFull | numbersExhausted | noPrice | nozzleType
  | classUndefined | limitTooSmall
deriving DecidableEq, Repr

/-- The receiver (R1): hunting, or inside a frame with the bytes taken since SYNC, oldest first. -/
inductive Receiver where
  | hunting
  | inside (bytes : List Byte)
deriving DecidableEq, Repr

/-- The states of link supervision (R11). -/
inductive Supervision where
  | off | watching | lost
deriving DecidableEq, Repr

/-! ## Field channels and valves (chapter 2) -/

/-- The state of an analog channel (R18). -/
inductive ChanState where
  | good | invalid | failed
deriving DecidableEq, Repr

/-- The reference result of a channel (R18). -/
inductive RefResult where
  | notChecked | pass | fail
deriving DecidableEq, Repr

/-- An analog channel record (R18). The age is in 0.1 s. -/
structure ChanRec where
  value : Option Int
  state : ChanState
  age : Nat
  hold : Timer
  ref : RefResult
deriving DecidableEq, Repr

/-- The 19 analog channel records (R18). -/
structure Channels where
  primary : Quad ChanRec
  secondary : Quad ChanRec
  outlet : Quad ChanRec
  bank : Quad ChanRec
  supply : ChanRec
  ambient : ChanRec
  precoolOutlet : ChanRec
deriving DecidableEq, Repr

/-- A debounced input (R25): the level standing at the contact, the settled level (none while unsettled, R26), the
candidate and the debounce timer. -/
structure SwitchRec where
  pin : Level
  settled : Option Level
  candidate : Level
  timer : Timer
deriving DecidableEq, Repr

/-- The 15 switch input records (section 2.3). -/
structure Switches where
  holder : Quad SwitchRec
  startButton : Quad SwitchRec
  stopButton : Quad SwitchRec
  esd : SwitchRec
  gasAlarm : SwitchRec
  sealIn : SwitchRec
deriving DecidableEq, Repr

/-- The state of an on/off valve (section 2.4.1). -/
inductive ValveState where
  | ok | stuckOpen | stuckClosed
deriving DecidableEq, Repr

/-- An on/off valve record (section 2.4.1): its feedback is debounced as a switch is. A valve is in use from the command
to open it until its arrival closed after the command to close it (R125, Log 15). -/
structure ValveRec where
  commanded : Level
  feedback : SwitchRec
  state : ValveState
  travel : Timer
  inUse : Bool
deriving DecidableEq, Repr

/-- The 24 on/off valve records; `bv` is indexed by the bank, then by the dispenser. -/
structure Valves where
  bv : Quad (Quad ValveRec)
  cv : Quad ValveRec
  dv : Quad ValveRec
deriving DecidableEq, Repr

/-- Which part of a reference sweep is running (section 2.5). -/
inductive SweepPhase where
  | idle | channels | valves
deriving DecidableEq, Repr

/-- One converter's place in the channel part: the channel of its list it is at, and the currents read for it. -/
structure ConvSweep where
  pos : Nat
  reads : List Nat
deriving DecidableEq, Repr

/-- The reference sweep (R32, R33). -/
structure Sweep where
  phase : SweepPhase
  a : ConvSweep
  b : ConvSweep
  wait : Timer
deriving DecidableEq, Repr

/-- The Field Interface (chapter 2). -/
structure Field where
  chans : Channels
  disagreeCount : Quad Nat
  disagree : Quad Bool
  switches : Switches
  valves : Valves
  pcv : Quad Nat
  running : SwitchRec
  sweep : Sweep
deriving DecidableEq, Repr

/-! ## Storage banks (chapter 3) -/

/-- The state of a bank (section 3.1). -/
inductive BankState where
  | ready
  | drawing (d : Four)
  | refilling
  | isolated
deriving DecidableEq, Repr

/-- A draw window (R55), with the failure count that the Meter Unit keeps for it (R159). -/
structure Window where
  disp : Four
  grantTime : Word
  pStart : Nat
  nGrant : Nat
  check : Timer
  failures : Nat
deriving DecidableEq, Repr

/-- A bank record (section 3.1); the measured pressure is the record of the bank's channel. -/
structure BankRec where
  state : BankState
  low : Bool
  isolatePending : Bool
  refillFailed : Bool
  waiters : List Four
  window : Option Window
deriving DecidableEq, Repr

/-- The Bank Manager: the bank table, and each dispenser's position, grant, lag count and bank wait timer
(R39, R40, R43, R46). -/
structure Banks where
  recs : Quad BankRec
  position : Quad (Option Four)
  grant : Quad (Option Four)
  lag : Quad Nat
  wait : Quad Timer
deriving DecidableEq, Repr

/-! ## Compression (chapter 4) -/

/-- The origin of a refill entry (section 4.1). -/
inductive Origin where
  | auto | station
deriving DecidableEq, Repr

/-- A refill queue entry (section 4.1). -/
structure RefillEntry where
  bank : Four
  priority : Nat
  target : Nat
  origin : Origin
  queued : Word
  delivered : Nat
  rise : Option Nat
deriving DecidableEq, Repr

/-- The compressor states (section 4.2). -/
inductive CompState where
  | disabled | idle | starting | running | switching | unloading | rest | fault
deriving DecidableEq, Repr

/-- The cause of a disable (section 4.2). -/
inductive DisableCause where
  | station | shutdown
deriving DecidableEq, Repr

/-- An open delivery spell (R64): its start pressure, absent where the bank gave none. -/
structure Spell where
  start : Option Nat
deriving DecidableEq, Repr

/-- What the scheduler keeps for a bank (R75). -/
structure BankTotals where
  delivered : Nat
  completed : Nat
deriving DecidableEq, Repr

/-- The Compressor Scheduler (sections 4.1, 4.2). `sinceOff` is the time passed since the run output last went off. -/
structure Compressor where
  queue : List RefillEntry
  state : CompState
  timer : Timer
  delivery : Option Four
  spell : Option Spell
  disablePending : Option DisableCause
  disableCause : Option DisableCause
  deferred : Bool
  supplyLow : Bool
  deferral : Timer
  mismatch : Timer
  sinceOff : Nat
  ring : List Word
  totals : Quad BankTotals
deriving DecidableEq, Repr

/-! ## Precooling (chapter 5) -/

/-- A reservation (R82); no grade for the empty reservation of R92. -/
structure Reservation where
  grade : Option Grade
  h : Nat
  reserved : Nat
  warm : Nat
deriving DecidableEq, Repr

/-- The three planning figures of a grade (R144). -/
structure Figures where
  target : Nat
  rate : Nat
  expected : Nat
deriving DecidableEq, Repr

/-- An admission request (section 5.5, R144): the figures of each allowed grade, best first. -/
structure AdmissionRequest where
  disp : Four
  tAmb : Int
  figures : List (Grade × Figures)
deriving DecidableEq, Repr

/-- A place on the precool wait list (R86). -/
structure PrecoolPlace where
  request : AdmissionRequest
  timer : Timer
deriving DecidableEq, Repr

/-- The Precool Unit (chapter 5). -/
structure Precool where
  reserve : Nat
  charge : Nat
  stage1 : Bool
  stage2 : Bool
  lowMark : Bool
  table : Quad (Option Reservation)
  waitList : List PrecoolPlace
  thermal : Timer
deriving DecidableEq, Repr

/-! ## Vehicle reports (chapter 6) -/

/-- The command of a vehicle report (section 6.3). -/
inductive VehicleCommand where
  | run | halt | abort
deriving DecidableEq, Repr

/-- A valid vehicle report (section 6.3). -/
structure Report where
  tankCode : Nat
  capacity : Nat
  pRep : Nat
  tRep : Int
  command : VehicleCommand
deriving DecidableEq, Repr

/-- The watch state of a receiver (R102). -/
inductive Watch where
  | idle | pending | watching
deriving DecidableEq, Repr

/-- A Vehicle Report Receiver (chapter 6): the age is in 0.1 s; the last report is fresh while `fresh` runs (R99). -/
structure VehicleReceiver where
  last : Option Report
  age : Nat
  fresh : Timer
  watch : Watch
  disagree : Nat
  valid : Nat
  checkFailures : Nat
  rangeFailures : Nat
  fallbacks : Nat
deriving DecidableEq, Repr

/-! ## The fill (chapters 7 and 8) -/

/-- The phases of CONNECTING (section 7.1). -/
inductive ConnPhase where
  | bank | pulse | settle
deriving DecidableEq, Repr

/-- The dispenser states (section 7.1). -/
inductive DispState where
  | closed | idle | authorized
  | connecting (p : ConnPhase)
  | leakCheck | waitPrecool | fuelling | ending | ended | fault
deriving DecidableEq, Repr

/-- The kind of a vehicle selection (R97). -/
inductive Selection where
  | cls (n : Nat)
  | user
  | autoCls (n : Nat)
  | autoUser
deriving DecidableEq, Repr

/-- Vehicle parameters captured at acceptance (R97). -/
structure Captured where
  selection : Selection
  capacity : Nat
  factor : Nat
  pCls : Option Nat
  soc : Option Nat
deriving DecidableEq, Repr

/-- The comm mode of a fill (chapter 6). -/
inductive CommMode where
  | noncomm | comm
deriving DecidableEq, Repr

/-- The class used by a fill (R100): an entry number, or USER. -/
inductive ClassUsed where
  | entry (n : Nat)
  | user
deriving DecidableEq, Repr

/-- One item of a bank usage list (R166). -/
structure UsageItem where
  bank : Four
  grams : Nat
deriving DecidableEq, Repr

/-- The vehicle parameters as resolved at planning (R100). -/
structure Vehicle where
  comm : CommMode
  used : ClassUsed
  capacity : Nat
  factor : Nat
  pCls : Option Nat
  soc : Nat
deriving DecidableEq, Repr

/-- The snapshot of a planned fill (R117, R139). -/
structure Snapshot where
  tAmb : Int
  vehicle : Vehicle
  ramp : List (Grade × RampRow)
  tRef : Nat
  socNc : Nat
deriving DecidableEq, Repr

/-- The ramp figures of a fuelling fill (R119, R133, R145). `left` is the remaining expected mass of the last
recomputation (R146). -/
structure Ramp where
  grade : Grade
  target : Nat
  rate : Nat
  expected : Nat
  base : Nat
  k : Nat
  left : Option Nat
deriving DecidableEq, Repr

/-- The fill record (R133): a part that nothing has written yet is absent. `least` is the least of the grade targets of
planning (R171). -/
structure Fill where
  nozzle : Nozzle
  startTime : Word
  startUnset : Bool
  currentBank : Option Four
  usage : List UsageItem
  p0 : Option Nat
  snapshot : Option Snapshot
  least : Option Nat
  ramp : Option Ramp
  admitted : Option Grade
  downgrades : Option Nat
  fallback : Bool
  cause : Option Cause
deriving DecidableEq, Repr

/-- The nine timers of a dispenser (chapter 7). -/
structure DispTimers where
  auth : Timer
  pulse : Timer
  settle : Timer
  leak : Timer
  ramp : Timer
  fill : Timer
  overshoot : Timer
  halt : Timer
  ending : Timer
deriving DecidableEq, Repr

/-- The five counters of a dispenser (R135). -/
structure DispStats where
  complete : Nat
  faults : Nat
  leaks : Nat
  downgrades : Nat
  mismatches : Nat
deriving DecidableEq, Repr

/-- A Dispenser Controller (chapter 7). -/
structure Dispenser where
  state : DispState
  closePending : Bool
  waitBank : Bool
  overshoot : Bool
  vehicleHalt : Bool
  captured : Option Captured
  fill : Option Fill
  leakRing : List Nat
  leakDrop : Option Nat
  lastCause : Option Cause
  timers : DispTimers
  stats : DispStats
deriving DecidableEq, Repr

/-! ## Metering (chapter 9) -/

/-- The kind of a limit (section 1.8). -/
inductive LimitKind where
  | none | money | mass
deriving DecidableEq, Repr

/-- Price and limits captured at authorization (R154). -/
structure Sale where
  price : Nat
  kind : LimitKind
  value : Nat
  mLim : Nat
  cap : Nat
  closeAhead : Nat
deriving DecidableEq, Repr

/-- The final figures of a fill (R157). -/
structure FinalFigures where
  mass : Nat
  billed : Nat
  overrun : Nat
deriving DecidableEq, Repr

/-- The metering record of a dispenser (section 9.1). The flow history is oldest first. -/
structure MeterRec where
  pulses : Nat
  mass : Nat
  creep : Nat
  flow : List Nat
  sale : Option Sale
  final : Option FinalFigures
deriving DecidableEq, Repr

/-- The calibration record (R160). -/
structure CalRecord where
  factors : Quad Nat
  audit : Nat
  check : Half
deriving DecidableEq, Repr

/-- The calibration session (R161): the staged factors in OPEN, the record being written in STORING. -/
inductive Session where
  | none
  | opened (staged : Quad Nat)
  | storing (record : CalRecord)
deriving DecidableEq, Repr

/-- The Meter Unit (chapter 9). -/
structure Meter where
  recs : Quad MeterRec
  flowTimer : Timer
  cal : CalRecord
  session : Session
  damaged : Bool
deriving DecidableEq, Repr

/-! ## The transaction log (chapter 10) -/

/-- The state of a log entry (R166). -/
inductive EntryState where
  | opened | closed | settled
deriving DecidableEq, Repr

/-- A log entry with its checkpoint image (R166, R171): `held` is the image's held mark, `p0` the image's P0, and
`group` the rest of the P0 group, whose presence is the group's presence. -/
structure LogEntry where
  number : Nat
  state : EntryState
  disp : Four
  authTime : Word
  tariff : Byte
  price : Nat
  limitKind : Byte
  limitValue : Nat
  cap : Nat
  mLim : Nat
  selection : List Byte
  startTime : Option Word
  p0 : Option Nat
  group : Option (Nat × CommMode)
  grade : Option (Grade × Nat)
  fallback : Bool
  disputed : Bool
  fromCheckpoint : Bool
  clockUnset : Bool
  endTime : Word
  finalPressure : Nat
  mass : Nat
  billed : Nat
  overrun : Nat
  cause : Option Cause
  usage : List UsageItem
  held : Bool
deriving DecidableEq, Repr

/-- The entry whose creation is being stored (R169): as it stands now, and as it went to the store. -/
structure Creation where
  entry : LogEntry
  stored : LogEntry
deriving DecidableEq, Repr

/-- An entry store under way (R169, R173, R176). `settle n tail` also carries the number of the new tail. -/
inductive EntryStore where
  | create
  | close (e : LogEntry)
  | settle (n tail : Nat)
deriving DecidableEq, Repr

/-- The checkpoint stores of a dispenser's entry (R172): the image being written, and the one waiting behind it. -/
structure CheckpointStore where
  writing : LogEntry
  waiting : Option LogEntry
deriving DecidableEq, Repr

/-- The Transaction Log (chapter 10): `ring` as it is read, tail first; `stored` as it stands in nonvolatile
storage. -/
structure TransLog where
  ring : List LogEntry
  stored : List LogEntry
  counter : Nat
  own : Quad (Option Nat)
  nearFull : Bool
  full : Bool
  creation : Option Creation
  stores : List EntryStore
  checkpoints : Quad (Option CheckpointStore)
  recovering : Option LogEntry
deriving DecidableEq, Repr

/-! ## The station supervisor (chapter 11) -/

/-- The start-up stages (R179). -/
inductive Stage where
  | s1 | s2 | s3 | s4 | s5 | s6
deriving DecidableEq, Repr

/-- The station states (section 11.1). -/
inductive StationState where
  | startUp (g : Stage)
  | ready
  | shutdown
deriving DecidableEq, Repr

/-- The kinds of reset (section 3.7 of 00_scope). -/
inductive ResetKind where
  | powerOn | resetLine | station
deriving DecidableEq, Repr

/-- The station fault causes (R181). -/
inductive FaultCause where
  | esd | gasAlarm | valveStuckOpen | bankOverpressure | metrology | compressor
deriving DecidableEq, Repr

/-- The six latches and the bank set of BANK_OVERPRESSURE (R181). -/
structure Latches where
  esd : Bool
  gasAlarm : Bool
  valveStuckOpen : Bool
  bankOverpressure : Bool
  metrology : Bool
  compressor : Bool
  overSet : Quad Bool
deriving DecidableEq, Repr

/-- The configuration store (R180): the image and its CRC. -/
structure ConfigStore where
  image : WorkConfig
  crc : Half
deriving DecidableEq, Repr

/-- A station reset asked for (R190): not at all, its reply not yet sent, its reply sent. -/
inductive ResetAsked where
  | none | asked | answered
deriving DecidableEq, Repr

/-- The Station Supervisor (chapter 11). `saving` is the image that a CFGSAVE is writing. -/
structure Supervisor where
  station : StationState
  resetKind : ResetKind
  latches : Latches
  resetPending : Bool
  resetAsked : ResetAsked
  configDefaulted : Bool
  store : ConfigStore
  saving : Option WorkConfig
  work : WorkConfig
deriving DecidableEq, Repr

/-! ## Replies (R5) and the reports they carry -/

/-- What STATUS reports (R15). -/
structure StatusReport where
  station : StationState
  clock : Word
  clockUnset : Bool
  latches : List (Bool × Bool)
  configDefaulted : Bool
  metrologyFault : Bool
  calibrating : Bool
  disps : List DispState
  compressor : CompState
  deferred : Bool
  supplyLow : Bool
  disableCause : Option DisableCause
  logCount : Nat
  supervision : Supervision
  linkTimeout : Nat
  linkAction : LinkAction
deriving DecidableEq, Repr

/-- A dispenser's report (R134). The times remaining on its running timers are in whole seconds (Log 34). -/
structure DispReport where
  state : DispState
  closePending : Bool
  holder : Option Level
  waitBank : Bool
  overshoot : Bool
  vehicleHalt : Bool
  lastCause : Option Cause
  entry : Option Nat
  fill : Option Fill
  setpoint : Nat
  timers : DispTimers
  primary : Option Int × ChanState
  secondary : Option Int × ChanState
  outlet : Option Int × ChanState
  mass : Nat
  amount : Option Nat
  billed : Option Nat
  overrun : Option Nat
  flow : Nat
  mLim : Option Nat
  cap : Option Nat
  ringCount : Nat
  ringLeast : Option Nat
  ringLast : Option Nat
  leakDrop : Option Nat
deriving DecidableEq, Repr

/-- What READBANK reports of an open window (R56). The time to the next check is in seconds (Log 34). -/
structure WindowReport where
  grantTime : Word
  pStart : Nat
  nextCheck : Nat
deriving DecidableEq, Repr

/-- What READBANK reports (R56, R75). Wait times are in seconds. -/
structure BankReport where
  config : BankCfg
  value : Option Int
  chan : ChanState
  age : Nat
  state : BankState
  low : Bool
  isolatePending : Bool
  refillFailed : Bool
  waiters : List (Four × Nat)
  window : Option WindowReport
  entry : Option RefillEntry
  delivering : Bool
  totals : BankTotals
deriving DecidableEq, Repr

/-- What READPRECOOL reports (R93). -/
structure PrecoolReport where
  reserve : Nat
  eMax : Nat
  charge : Nat
  lowMark : Bool
  stage1 : Bool
  stage2 : Bool
  stagePower : Nat
  loss : Nat
  outlet : Option Int
  outletState : ChanState
  outletAge : Nat
  grades : List GradeCfg
  cp : Nat
  table : List (Option Reservation)
  reservedTotal : Nat
  waiting : List (Four × Nat)
deriving DecidableEq, Repr

/-- What CAL READ reports (R163). -/
structure CalReport where
  record : CalRecord
  metrologyFault : Bool
  sealIn : Option Level
  session : Session
deriving DecidableEq, Repr

/-- The data that follows a reply head (R5). Records whose bytes section 1.8 lays out are bytes; the others carry the
items that their rules list, and `ReplyData.body` gives their bytes (Log 18). -/
inductive ReplyData where
  | none
  | bytes (bs : List Byte)
  | status (r : StatusReport)
  | broadcast (rs : List (ResultCode × Nat))
  | broadcastReports (rs : List (ResultCode × Nat × DispReport))
  | disp (r : DispReport)
  | bank (r : BankReport)
  | precool (r : PrecoolReport)
  | cal (r : CalReport)
  | calClosed (audit : Nat) (check : Half)
  | authorized (number mLim cap : Nat)
  | counters (cs : List Nat)
deriving DecidableEq, Repr

/-- An owner's answer (R3 step 5): the result, DETAIL and the reply data. -/
structure Answer where
  result : ResultCode
  detail : Nat
  data : ReplyData
deriving DecidableEq, Repr

/-- A reply frame (R5): the KIND with its top bit set, the TAG, and the head. -/
structure Reply where
  kind : Byte
  tag : Byte
  result : ResultCode
  pending : Nat
  detail : Nat
  data : ReplyData
deriving DecidableEq, Repr

/-- How far the request in service has come: waiting for its owner, its store running, its reply in transmission, or
the BUSY reply to the noted frame in transmission (R3, R4). -/
inductive Service where
  | waiting
  | storing
  | replying (r : Reply)
  | busyReplying (r : Reply)
deriving DecidableEq, Repr

/-- The request in the receive buffer (R3). -/
structure Request where
  kind : Byte
  tag : Byte
  body : List Byte
  phase : Service
deriving DecidableEq, Repr

/-- The Link Controller (chapter 1). -/
structure Link where
  receiver : Receiver
  gap : Timer
  buffer : Option Request
  note : Option (Byte × Byte)
  notices : List Notice
  lost : Bool
  supervision : Supervision
  supTimer : Timer
  clock : Word
  clockSet : Bool
  framing : Nat
  overrun : Nat
  discarded : Nat
deriving DecidableEq, Repr

/-! ## Consequences inside one step -/

/-- The occasion of a choice of the Compressor Scheduler (R60). -/
inductive ChoiceAt where
  | spinUp | switching
deriving DecidableEq, Repr

/-- A consequence still to be taken inside the present step (Log 10). -/
inductive Task where
  | endCause (d : Four) (c : Cause)
  | endingRest (d : Four)
  | release (b d : Four)
  | freeBank (b : Four)
  | serve (b : Four)
  | rewalk (b : Four)
  | walk (d : Four) (expired : Option Four)
  | grant (d b : Four)
  | takeGrant (d b : Four) (old : Option Four)
  | lose (b : Four)
  | choose (at_ : ChoiceAt) (left : List Four)
  | isolate (b : Four)
  | switchDemand (d : Four)
  | mismatch (d : Four)
  | latch (c : FaultCause) (b : Option Four)
  | shutdown (c : FaultCause)
  | compShutdown
  | plan (d : Four)
  | admitHead
  | enterFuelling (d : Four) (g : Grade) (f : Figures)
  | fuelRequest (d : Four)
  | fuelCheckpoint (d : Four)
  | fallback (d : Four)
  | rampBank (d : Four)
  | rampPrecool (d : Four)
  | rampRestart (d : Four)
  | unload
deriving DecidableEq, Repr

end Sys2Proof.Machine
end

