-- ==== Sys2Proof/Machine/Arith.lean ====
section
/-!
DEFINITION. The arithmetic of the handbook: the conversion of a sample (R18), the ramp and target arithmetic of chapter
8, the heat per gram (R81), the metering, price and cross-check formulas of chapter 9 and the delivered mass of R75.
Every formula is worked exactly and rounds once, at the floor written in it (R137).
-/

namespace Sys2Proof.Machine

/-! ## Samples (R18) -/

/-- A channel's span in its unit, low end first (R18). -/
def span : Channel → Int × Int
  | .primary _ => (0, 100000)
  | .secondary _ => (0, 100000)
  | .outlet _ => (-600, 1000)
  | .bank _ => (0, 100000)
  | .supply => (0, 10000)
  | .ambient => (-600, 1000)
  | .precoolOutlet => (-600, 1000)

/-- A channel's hold time in ms (R18). -/
def holdTime : Channel → Nat
  | .primary _ => 1000
  | .secondary _ => 1000
  | .outlet _ => 5000
  | .bank _ => 1000
  | .supply => 1000
  | .ambient => 600000
  | .precoolOutlet => 5000

/-- The physical range of a sample, µA (R18). -/
def inPhysicalRange (current : Nat) : Bool := decide (3600 ≤ current) && decide (current ≤ 21000)

/-- The channel's unit from a current in the physical range (R18). -/
def convert (ch : Channel) (current : Nat) : Int :=
  let i := min 20000 (max 4000 current)
  (span ch).1 + ((i - 4000 : Nat) : Int) * ((span ch).2 - (span ch).1) / 16000

/-! ## Constants of the nozzle types (R107, R138) -/

/-- The grades allowed, best to worst (section 5.3). -/
def gradesAllowed : Nozzle → List Grade
  | .hp => [.a, .b, .c]
  | .mp => [.a, .b, .c, .u]

/-- The nominal working pressure (R138). -/
def pNom : Nozzle → Nat
  | .hp => 70000
  | .mp => 35000

/-- The highest target of the nozzle type (R138). -/
def pCeiling : Nozzle → Nat
  | .hp => 87500
  | .mp => 43750

/-- The slowest ramp of the nozzle type (R138). -/
def rMin : Nozzle → Nat
  | .hp => 60
  | .mp => 30

/-- The overpressure threshold (R107). -/
def overpressureThreshold (z : Nozzle) : Nat := pCeiling z + 1000

/-- The ramp table row of a nozzle type and grade (R139). Grade U is not allowed on HP (Log 24). -/
def RampTable.row (t : RampTable) : Nozzle → Grade → RampRow
  | .hp, .a => t.hpA
  | .hp, .b => t.hpB
  | .hp, .c => t.hpC
  | .hp, .u => t.hpC
  | .mp, .a => t.mpA
  | .mp, .b => t.mpB
  | .mp, .c => t.mpC
  | .mp, .u => t.mpU

/-- The next lower allowed grade (R90). -/
def lowerGrade : Nozzle → Grade → Option Grade
  | _, .a => some .b
  | _, .b => some .c
  | .mp, .c => some .u
  | .hp, .c => none
  | _, .u => none

/-! ## Ramp and target (R141, R142, R143, R145, R148) -/

/-- A temperature in 0.1 °C as an absolute temperature in 0.01 K (R141). -/
def absTemp (t : Int) : Nat := (27315 + 10 * t).toNat

/-- The target pressure (R141). -/
def targetPressure (z : Nozzle) (pCls : Option Nat) (soc : Nat) (tAmb : Int) (row : RampRow) : Nat :=
  let third := pNom z * soc * absTemp (tAmb + row.rise) / (100 * 28815)
  min (pCeiling z) (pCls.elim third (min third))

/-- The ramp rate (R142). A negative raw rate gives 0, as the subtraction of naturals does. -/
def rampRate (z : Nozzle) (row : RampRow) (tRef factor : Nat) (tAmb : Int) : Nat :=
  let raw := row.r0 - row.slope * (tAmb - tRef).toNat / 10
  min row.r0 (max (rMin z) (raw * factor / 100))

/-- The expected mass of a rise from `p0` to the target, capped by the mass limit (R143). -/
def expectedMass (mLim capacity target p0 : Nat) : Nat := min mLim (capacity * (target - p0) / target)

/-- The setpoint at the step count of the fill's ramp (R145). -/
def Ramp.setpoint (r : Ramp) : Nat := min (r.base + r.k * r.rate) r.target

/-- The state of charge that a report gives (R148). -/
def socReported (z : Nozzle) (r : Report) : Nat := r.pRep * 28815 * 100 / (pNom z * absTemp r.tRep)

/-! ## Precooling (R81, R84) -/

/-- The configured row of a grade; grade U has none (R77). -/
def PrecoolCfg.row (c : PrecoolCfg) : Grade → Option GradeCfg
  | .a => some c.a
  | .b => some c.b
  | .c => some c.c
  | .u => none

/-- The heat per gram h(g) (R81). -/
def heatPerGram (c : PrecoolCfg) (tAmb : Int) (g : Grade) : Nat :=
  (PrecoolCfg.row c g).elim 0 fun r => c.cp * (tAmb - r.tPc).toNat / 10

/-- The reserve that must remain after the fill's heat is set aside; 0 for U (R77). -/
def gradeFloor (c : PrecoolCfg) (g : Grade) : Nat := (PrecoolCfg.row c g).elim 0 (·.floor)

/-- The outlet temperature condition of admission (R84): U needs none, the others a valid T_pco at most T_lim. -/
def outletAdmits (c : PrecoolCfg) (tPco : Option Int) (g : Grade) : Bool :=
  match PrecoolCfg.row c g with
  | none => true
  | some r => tPco.elim false fun t => decide (t ≤ r.tLim)

/-- The reserve condition of admission, worked as a signed number (R84). -/
def reserveAdmits (c : PrecoolCfg) (reserve others : Nat) (tAmb : Int) (g : Grade) (expected : Nat) : Bool :=
  decide ((gradeFloor c g : Int) ≤ (reserve : Int) - others - (expected * heatPerGram c tAmb g : Nat))

/-! ## Metering and price (R150, R154 to R158) -/

/-- The mass of `n` pulses at the meter factor `k` (R150). -/
def massOf (n k : Nat) : Nat := n * 1000 / k

/-- The amount of a mass at a price (R155). -/
def amount (m p : Nat) : Nat := (m * p + 500) / 1000

/-- The billed figure (R155). -/
def billedFigure (c : Sale) (m : Nat) : Nat := min (amount m c.price) c.cap

/-- The mass limit of a limit (R154). -/
def massLimit (kind : LimitKind) (value price stationMax : Nat) : Nat :=
  match kind with
  | .money => (1000 * value + 499) / price
  | .mass => value
  | .none => stationMax

/-- The amount cap of a limit (R154). -/
def amountCap (kind : LimitKind) (value price mLim : Nat) : Nat :=
  match kind with
  | .money => value
  | .mass => amount value price
  | .none => amount mLim price

/-- The threshold of the close-ahead test (R156). -/
def closeAheadThreshold (c : Sale) : Nat := if c.mLim ≤ c.closeAhead then 1 else c.mLim - c.closeAhead

/-- The mass a window's fall of bank pressure stands for (R158). -/
def estimatedMass (pStart pNow massFactor : Nat) : Nat := (pStart - pNow) * massFactor / 1000

/-- Whether a checked window passes (R158). -/
def windowPasses (metered estimated : Nat) : Bool :=
  decide ((metered - estimated) + (estimated - metered) ≤ 15 * metered / 100 + 100)

/-- The delivered mass of a spell; 0 where either pressure is absent or the pressure has not risen (R75). -/
def spellMass (start finish : Option Nat) (massFactor : Nat) : Nat :=
  match start, finish with
  | some p, some q => (q - p) * massFactor / 1000
  | _, _ => 0

end Sys2Proof.Machine
end

