-- ==== Sys2Proof/Machine/Bytes.lean ====
section
/-!
DEFINITION. Bytes of the station link: multi-byte fields most significant byte first (R17), and the CRC that guards
frames, vehicle reports, the calibration record and the configuration store (R2, R98, R160, R180).
-/

namespace Sys2Proof.Machine

/-- The low `n` bytes of a number, most significant first (R17). -/
def beBytes : Nat → Nat → List Byte
  | 0, _ => []
  | n + 1, v => BitVec.ofNat 8 (v / 256 ^ n) :: beBytes n v

/-- The number that bytes spell, most significant first (R17). -/
def beValue (bs : List Byte) : Nat := bs.foldl (fun acc b => acc * 256 + b.toNat) 0

/-- The signed number that two bytes spell, in two's complement (R17). -/
def beSigned16 (bs : List Byte) : Int := (BitVec.ofNat 16 (beValue bs)).toInt

/-- `n` bits of the CRC: the generator is x^16 + x^12 + x^5 + 1 (R2). -/
def crcBits : Nat → Half → Half
  | 0, c => c
  | n + 1, c => crcBits n (if c.msb then (c <<< 1) ^^^ 0x1021 else c <<< 1)

/-- One byte into the CRC, most significant bit first (R2). -/
def crcByte (c : Half) (b : Byte) : Half := crcBits 8 (c ^^^ (b.setWidth 16 <<< 8))

/-- The CRC of a run of bytes: initial value all ones, no final inversion (R2). -/
def crc16 (bs : List Byte) : Half := bs.foldl crcByte 0xFFFF

/-- The ten bytes over which a calibration record's check value is worked (R160). -/
def calBytes (factors : Quad Nat) (audit : Nat) : List Byte :=
  (factors.toList.map (beBytes 2)).flatten ++ beBytes 2 audit

end Sys2Proof.Machine
end

