-- ==== Sys2Proof/Machine/ResetValues.lean ====
section
/-!
DEFINITION. The values that the blocks hold after a reset, and the factory configuration of a fresh store: the reset
rules R4, R9, R16, R22, R26, R30, R57, R76, R94, R106, R136, R165, R178, R190 and the defaults of R35, R37, R77, R95,
R107, R139, R153, R160, R188.
-/

namespace Sys2Proof.Machine

/-! ## The factory configuration -/

/-- The SITE group's defaults (R188). -/
def factorySite : SiteCfg :=
  { linkTimeout := 30, linkAction := .hold, dPMin := 2000, dPSwitch := 3000, lagLimit := 4000, bankWait := 20,
    startLimit := 6, socComm := 100, socNc := 95, authTimeout := 120, leakHold := 5, leakDrop := 500,
    hpFillTime := 600, mpFillTime := 1800, tRef := 200, closeAhead := 30, hpMax := 10000, mpMax := 60000,
    enGas := true, enValve := true, enOver := true, enMetro := false, enComp := false }

/-- The BANK groups' defaults (R35). -/
def factoryBanks : Quad BankCfg :=
  { one := ⟨1, 52000, 1200, 44200, 50000, 1, 5000⟩, two := ⟨2, 72000, 900, 61200, 70000, 1, 5000⟩,
    three := ⟨3, 95000, 600, 80750, 93000, 2, 5000⟩, four := ⟨4, 95000, 600, 80750, 93000, 2, 5000⟩ }

/-- The DISPENSER groups' defaults (R107, R37). -/
def factoryDisps : Quad DispCfg :=
  { one := ⟨.hp, [.one, .two, .three, .four], true⟩, two := ⟨.hp, [.one, .two, .three, .four], true⟩,
    three := ⟨.mp, [.one, .two], true⟩, four := ⟨.mp, [.one, .two], true⟩ }

/-- The PRECOOL group's defaults (R77). -/
def factoryPrecool : PrecoolCfg :=
  { eMax := 40000000, stagePower := 12000, loss := 1500, cp := 16, waitLimit := 90,
    a := ⟨-400, -330, 8000000⟩, b := ⟨-300, -260, 5000000⟩, c := ⟨-200, -175, 2000000⟩ }

/-- The RAMP group's defaults (R139). -/
def factoryRamp : RampTable :=
  { hpA := ⟨470, 8, 120⟩, hpB := ⟨380, 7, 200⟩, hpC := ⟨300, 6, 280⟩, mpA := ⟨300, 5, 100⟩, mpB := ⟨250, 4, 160⟩,
    mpC := ⟨200, 4, 220⟩, mpU := ⟨120, 3, 350⟩ }

/-- A factory entry 1 to 15 of the class table (R95). -/
def factoryClass : ClassEntry := ⟨false, true, true, 0, 0, 100, 100, none, none⟩

/-- The factory configuration (R180). -/
def factoryConfig : WorkConfig :=
  { site := factorySite, banks := factoryBanks, disps := factoryDisps, precool := factoryPrecool, ramp := factoryRamp,
    generic := ⟨100, none, none⟩, classes := List.replicate 15 factoryClass, tariffs := List.replicate 8 ⟨0, 0⟩ }

/-! ## The link (R1, R4, R9, R11, R14, R16) -/

/-- The Link Controller after POWER-ON or RESET LINE. -/
def resetLink : Link :=
  { receiver := .hunting, gap := none, buffer := none, note := none, notices := [], lost := false,
    supervision := .off, supTimer := none, clock := 0, clockSet := false, framing := 0, overrun := 0, discarded := 0 }

/-! ## The field interface (R22, R23, R26, R30, R31) -/

/-- A channel record after a reset, its hold timer started at the channel's hold time in ms (R22). -/
def resetChan (hold : Nat) : ChanRec := ⟨none, .invalid, 0, some hold, .notChecked⟩

/-- The 19 channels after a reset, with the hold times of R18. -/
def resetChannels : Channels :=
  { primary := .fill (resetChan 1000), secondary := .fill (resetChan 1000), outlet := .fill (resetChan 5000),
    bank := .fill (resetChan 1000), supply := resetChan 1000, ambient := resetChan 600000,
    precoolOutlet := resetChan 5000 }

/-- A debounced input after a reset: unsettled, the level at its contact held from the end of the reset (R26). -/
def resetSwitch (pin : Level) : SwitchRec := ⟨pin, none, pin, some 50⟩

/-- A valve record after a reset (R30): not in use, since nothing has commanded it open (R125). -/
def resetValve (pin : Level) : ValveRec := ⟨.closed, resetSwitch pin, .ok, none, false⟩

/-- No sweep (R34). -/
def resetSweep : Sweep := ⟨.idle, ⟨0, []⟩, ⟨0, []⟩, none⟩

/-- The Field Interface after a reset at which the contacts stand as Log 4 names them. -/
def resetField : Field :=
  { chans := resetChannels, disagreeCount := .fill 0, disagree := .fill false,
    switches :=
      { holder := .fill (resetSwitch .closed), startButton := .fill (resetSwitch .opened),
        stopButton := .fill (resetSwitch .opened), esd := resetSwitch .closed, gasAlarm := resetSwitch .closed,
        sealIn := resetSwitch .closed },
    valves :=
      { bv := .fill (.fill (resetValve .closed)), cv := .fill (resetValve .closed), dv := .fill (resetValve .closed) },
    pcv := .fill 0, running := resetSwitch .opened, sweep := resetSweep }

/-! ## Banks, compressor and precooler (R57, R76, R94) -/

/-- A bank record after a reset (R57). -/
def resetBank : BankRec := ⟨.ready, false, false, false, [], none⟩

/-- The Bank Manager after a reset (R57). -/
def resetBanks : Banks :=
  { recs := .fill resetBank, position := .fill none, grant := .fill none, lag := .fill 0, wait := .fill none }

/-- The Compressor Scheduler after POWER-ON or RESET LINE (R76). -/
def resetCompressor : Compressor :=
  { queue := [], state := .idle, timer := none, delivery := none, spell := none, disablePending := none,
    disableCause := none, deferred := false, supplyLow := true, deferral := none, mismatch := none, sinceOff := 0,
    ring := [], totals := .fill ⟨0, 0⟩ }

/-- The Precool Unit after POWER-ON or RESET LINE (R94). -/
def resetPrecool : Precool :=
  { reserve := 0, charge := 0, stage1 := false, stage2 := false, lowMark := true, table := .fill none,
    waitList := [], thermal := some 1000 }

/-! ## Receivers, dispensers and the meter (R106, R136, R165) -/

/-- A Vehicle Report Receiver after a reset (R106). -/
def resetReceiver : VehicleReceiver := ⟨none, 0, none, .idle, 0, 0, 0, 0, 0⟩

/-- Every timer of a dispenser stopped (R136). -/
def noTimers : DispTimers := ⟨none, none, none, none, none, none, none, none, none⟩

/-- A Dispenser Controller after a reset (R136). -/
def resetDispenser : Dispenser :=
  { state := .closed, closePending := false, waitBank := false, overshoot := false, vehicleHalt := false,
    captured := none, fill := none, leakRing := [], leakDrop := none, lastCause := none, timers := noTimers,
    stats := ⟨0, 0, 0, 0, 0⟩ }

/-- A metering record after a reset (R165). -/
def resetMeterRec : MeterRec := ⟨0, 0, 0, List.replicate 10 0, none, none⟩

/-- The calibration record of a fresh store: its check value agrees (R160). -/
def freshCal : CalRecord := ⟨.fill 20000, 0, crc16 (calBytes (.fill 20000) 0)⟩

/-- The Meter Unit after a reset that finds the calibration record `cal` (R165). -/
def resetMeter (cal : CalRecord) : Meter := ⟨.fill resetMeterRec, some 100, cal, .none, false⟩

/-! ## The log and the supervisor (R168, R178, R180, R190) -/

/-- The Transaction Log of a fresh store (R168, R178). -/
def freshLog : TransLog :=
  { ring := [], stored := [], counter := 1, own := .fill none, nearFull := false, full := false, creation := none,
    stores := [], checkpoints := .fill none, recovering := none }

/-- A fresh configuration store: the factory defaults with an agreeing CRC (R180). -/
def freshStore : ConfigStore := ⟨factoryConfig, crc16 (Config.storeImage factoryConfig)⟩

/-- Every latch clear and the bank set empty (R190). -/
def noLatches : Latches := ⟨false, false, false, false, false, false, .fill false⟩

/-- The Station Supervisor after POWER-ON with a fresh store (R179, R180, R190). -/
def resetSupervisor : Supervisor :=
  { station := .startUp .s1, resetKind := .powerOn, latches := noLatches, resetPending := false,
    resetAsked := .none, configDefaulted := false, store := freshStore, saving := none, work := factoryConfig }

end Sys2Proof.Machine
end

