-- ==== Sys2Proof/Machine/State.lean ====
section
/-!
DEFINITION. The state of the controller: the ten blocks of 00_scope section 2.1, the counter that gives each open
choice a fresh free value (Log 7), and the queue of the commands that wait, first in, first out.
-/

namespace Sys2Proof.Machine

/-- What the controller holds. The Bank Manager's measured pressures, T_pco, the holder levels and the seal level are
the records of their channels and switches, held once, in `field`. -/
structure State where
  link : Link
  field : Field
  banks : Banks
  comp : Compressor
  precool : Precool
  receivers : Quad VehicleReceiver
  disps : Quad Dispenser
  meter : Meter
  log : TransLog
  sup : Supervisor
  freeIx : Nat
  pending : List Instr
deriving DecidableEq, Repr

/-- No command of the controller stops it: the specification gives every command an effect in every state. No
constructor is needed, so no step faults (safe). -/
inductive Fault where
deriving DecidableEq, Repr

/-- The reasons for which a command has no meaning. -/
inductive Refusal where
  /-- Raised by an arm of `exec` whose command has no meaning yet; safe, since nothing is claimed of it. -/
  | notModelled (mnemonic : String)
deriving DecidableEq, Repr

/-- The controller after POWER-ON with fresh stores (R4, R9, R22, R26, R30, R57, R76, R94, R106, R136, R165, R168,
R178 to R180, R190), no command waiting. The levels at the contacts are the model's choice (Log 4). -/
def State.reset : State :=
  { link := resetLink, field := resetField, banks := resetBanks, comp := resetCompressor, precool := resetPrecool,
    receivers := .fill resetReceiver, disps := .fill resetDispenser, meter := resetMeter freshCal, log := freshLog,
    sup := resetSupervisor, freeIx := 0, pending := [] }

end Sys2Proof.Machine
end

