-- ==== Sys2Proof/Machine/Ops.lean ====
section
/-!
DEFINITION. The named operations over the state that every rule is written with: changing one record of one block,
saturating counters, posting a notice (R8), commanding a valve (R27), setting a proportional output (R31).
-/

namespace Sys2Proof.Machine

/-! ## Saturating counters -/

/-- One more, up to a greatest value (R16, R75, R106, R135, R18). -/
def satInc (top n : Nat) : Nat := min top (n + 1)

/-- The greatest value of a 16-bit counter. -/
def top16 : Nat := 65535

/-- The greatest value of a 32-bit counter. -/
def top32 : Nat := 4294967295

/-- Seconds as the milliseconds of a timer. -/
def seconds (n : Nat) : Timer := some (n * 1000)

/-- The nine timers of a dispenser, each changed by `f`. -/
def DispTimers.map (f : Timer → Timer) (m : DispTimers) : DispTimers :=
  { auth := f m.auth, pulse := f m.pulse, settle := f m.settle, leak := f m.leak, ramp := f m.ramp, fill := f m.fill,
    overshoot := f m.overshoot, halt := f m.halt, ending := f m.ending }

/-! ## Changing one record -/

namespace State

/-- The Link Controller changed by `f`. -/
def modLink (s : State) (f : Link → Link) : State := { s with link := f s.link }

/-- The Field Interface changed by `f`. -/
def modField (s : State) (f : Field → Field) : State := { s with field := f s.field }

/-- The Bank Manager changed by `f`. -/
def modBanks (s : State) (f : Banks → Banks) : State := { s with banks := f s.banks }

/-- The record of bank `b` changed by `f`. -/
def modBank (s : State) (b : Four) (f : BankRec → BankRec) : State :=
  s.modBanks fun k => { k with recs := k.recs.modify b f }

/-- The Compressor Scheduler changed by `f`. -/
def modComp (s : State) (f : Compressor → Compressor) : State := { s with comp := f s.comp }

/-- The Precool Unit changed by `f`. -/
def modPrecool (s : State) (f : Precool → Precool) : State := { s with precool := f s.precool }

/-- The Vehicle Report Receiver of dispenser `d` changed by `f`. -/
def modReceiver (s : State) (d : Four) (f : VehicleReceiver → VehicleReceiver) : State :=
  { s with receivers := s.receivers.modify d f }

/-- The Dispenser Controller of `d` changed by `f`. -/
def modDisp (s : State) (d : Four) (f : Dispenser → Dispenser) : State := { s with disps := s.disps.modify d f }

/-- The fill record of `d`, where there is one, changed by `f`. -/
def modFill (s : State) (d : Four) (f : Fill → Fill) : State := s.modDisp d fun p => { p with fill := p.fill.map f }

/-- The timers of dispenser `d` changed by `f`. -/
def modTimers (s : State) (d : Four) (f : DispTimers → DispTimers) : State :=
  s.modDisp d fun p => { p with timers := f p.timers }

/-- The Meter Unit changed by `f`. -/
def modMeter (s : State) (f : Meter → Meter) : State := { s with meter := f s.meter }

/-- The metering record of dispenser `d` changed by `f`. -/
def modMeterRec (s : State) (d : Four) (f : MeterRec → MeterRec) : State :=
  s.modMeter fun m => { m with recs := m.recs.modify d f }

/-- The Transaction Log changed by `f`. -/
def modLog (s : State) (f : TransLog → TransLog) : State := { s with log := f s.log }

/-- The Station Supervisor changed by `f`. -/
def modSup (s : State) (f : Supervisor → Supervisor) : State := { s with sup := f s.sup }

/-- The working configuration (R188). -/
def work (s : State) : WorkConfig := s.sup.work

/-- The configuration of dispenser `d` (R107). -/
def dispCfg (s : State) (d : Four) : DispCfg := s.sup.work.disps.get d

/-- The configuration of bank `b` (R35). -/
def bankCfg (s : State) (b : Four) : BankCfg := s.sup.work.banks.get b

/-- The record of bank `b` (section 3.1). -/
def bank (s : State) (b : Four) : BankRec := s.banks.recs.get b

/-- The Dispenser Controller of `d` (chapter 7). -/
def disp (s : State) (d : Four) : Dispenser := s.disps.get d

/-- The metering record of `d` (section 9.1). -/
def meterRec (s : State) (d : Four) : MeterRec := s.meter.recs.get d

/-- The Vehicle Report Receiver of `d` (chapter 6). -/
def receiver (s : State) (d : Four) : VehicleReceiver := s.receivers.get d

end State

/-! ## Posting a notice -/

/-- A notice appended at the newest end; a full queue loses its oldest (R8). -/
def Link.post (l : Link) (kind : NoticeKind) (source : Source) (detail : Nat) : Link :=
  let n : Notice := ⟨kind, source, detail, l.clock, !l.clockSet⟩
  if l.notices.length < 32 then { l with notices := l.notices ++ [n] }
  else { l with notices := l.notices.tail ++ [n], lost := true, discarded := satInc top16 l.discarded }

/-- Posting a notice to the Link Controller (R8). -/
def State.post (s : State) (kind : NoticeKind) (source : Source) (detail : Nat) : State :=
  s.modLink (·.post kind source detail)

/-! ## Channels, switches and valves -/

/-- The record of a channel (R18). -/
def Channels.get (c : Channels) : Channel → ChanRec
  | .primary d => c.primary.get d
  | .secondary d => c.secondary.get d
  | .outlet d => c.outlet.get d
  | .bank b => c.bank.get b
  | .supply => c.supply
  | .ambient => c.ambient
  | .precoolOutlet => c.precoolOutlet

/-- The records with that of one channel replaced. -/
def Channels.set (c : Channels) (ch : Channel) (r : ChanRec) : Channels :=
  match ch with
  | .primary d => { c with primary := c.primary.set d r }
  | .secondary d => { c with secondary := c.secondary.set d r }
  | .outlet d => { c with outlet := c.outlet.set d r }
  | .bank b => { c with bank := c.bank.set b r }
  | .supply => { c with supply := r }
  | .ambient => { c with ambient := r }
  | .precoolOutlet => { c with precoolOutlet := r }

/-- Every channel record changed by `f`. -/
def Channels.mapAll (c : Channels) (f : ChanRec → ChanRec) : Channels :=
  { primary := c.primary.map f, secondary := c.secondary.map f, outlet := c.outlet.map f, bank := c.bank.map f,
    supply := f c.supply, ambient := f c.ambient, precoolOutlet := f c.precoolOutlet }

/-- The record of a channel in the Field Interface. -/
def State.chan (s : State) (ch : Channel) : ChanRec := s.field.chans.get ch

/-- A channel record replaced. -/
def State.setChan (s : State) (ch : Channel) (r : ChanRec) : State :=
  s.modField fun f => { f with chans := f.chans.set ch r }

/-- The record of a switch input (section 2.3). -/
def Switches.get (w : Switches) : Switch → SwitchRec
  | .holder d => w.holder.get d
  | .startButton d => w.startButton.get d
  | .stopButton d => w.stopButton.get d
  | .esd => w.esd
  | .gasAlarm => w.gasAlarm
  | .sealIn => w.sealIn

/-- The records with that of one switch replaced. -/
def Switches.set (w : Switches) (i : Switch) (r : SwitchRec) : Switches :=
  match i with
  | .holder d => { w with holder := w.holder.set d r }
  | .startButton d => { w with startButton := w.startButton.set d r }
  | .stopButton d => { w with stopButton := w.stopButton.set d r }
  | .esd => { w with esd := r }
  | .gasAlarm => { w with gasAlarm := r }
  | .sealIn => { w with sealIn := r }

/-- Every switch record changed by `f`. -/
def Switches.mapAll (w : Switches) (f : SwitchRec → SwitchRec) : Switches :=
  { holder := w.holder.map f, startButton := w.startButton.map f, stopButton := w.stopButton.map f, esd := f w.esd,
    gasAlarm := f w.gasAlarm, sealIn := f w.sealIn }

/-- All fifteen switch records. -/
def Switches.toList (w : Switches) : List SwitchRec :=
  w.holder.toList ++ w.startButton.toList ++ w.stopButton.toList ++ [w.esd, w.gasAlarm, w.sealIn]

/-- The record of a switch in the Field Interface. -/
def State.switch (s : State) (i : Switch) : SwitchRec := s.field.switches.get i

/-- A switch record replaced. -/
def State.setSwitch (s : State) (i : Switch) (r : SwitchRec) : State :=
  s.modField fun f => { f with switches := f.switches.set i r }

/-- The record of a valve (section 2.4.1). -/
def Valves.get (v : Valves) : Valve → ValveRec
  | .bv b d => (v.bv.get b).get d
  | .cv b => v.cv.get b
  | .dv d => v.dv.get d

/-- The records with that of one valve replaced. -/
def Valves.set (v : Valves) (i : Valve) (r : ValveRec) : Valves :=
  match i with
  | .bv b d => { v with bv := v.bv.modify b (·.set d r) }
  | .cv b => { v with cv := v.cv.set b r }
  | .dv d => { v with dv := v.dv.set d r }

/-- Every valve record changed by `f`. -/
def Valves.mapAll (v : Valves) (f : ValveRec → ValveRec) : Valves :=
  { bv := v.bv.map (·.map f), cv := v.cv.map f, dv := v.dv.map f }

/-- The 24 valves in the order of their numbers (section 2.4.1). -/
def allValves : List Valve :=
  (Four.all.map fun b => Four.all.map fun d => Valve.bv b d).flatten ++ Four.all.map Valve.cv ++
    Four.all.map Valve.dv

/-- The record of a valve in the Field Interface. -/
def State.valve (s : State) (i : Valve) : ValveRec := s.field.valves.get i

/-- A valve record replaced. -/
def State.setValve (s : State) (i : Valve) (r : ValveRec) : State :=
  s.modField fun f => { f with valves := f.valves.set i r }

/-- A command as the valve's record takes it (R27): the record after it, and whether the command was answered that
the valve is faulted. The command to open begins the valve's use, and an arrival closed reported at once ends it (R125). -/
def ValveRec.command (r : ValveRec) (target : Level) : ValveRec × Bool :=
  match r.state with
  | .ok =>
    if target = r.commanded then (r, false)
    else if r.feedback.settled = some target then ({ r with commanded := target, travel := none, inUse := decide (target = .opened) }, false)
    else ({ r with commanded := target, travel := some 2000, inUse := decide (target = .opened) || r.inUse }, false)
  | _ => (r, decide (target = .opened))

/-- A valve commanded OPEN or CLOSED (R27). -/
def State.command (s : State) (v : Valve) (target : Level) : State := s.setValve v ((s.valve v).command target).1

/-- Whether a command to OPEN the valve is answered that it is faulted (R27). -/
def State.answersFaulted (s : State) (v : Valve) : Bool := decide ((s.valve v).state ≠ .ok)

/-- Several valves commanded closed. -/
def State.closeAll (s : State) (vs : List Valve) : State := vs.foldl (fun s v => s.command v .closed) s

/-- The proportional output of dispenser `d` set (R31). -/
def State.setPcv (s : State) (d : Four) (p : Nat) : State := s.modField fun f => { f with pcv := f.pcv.set d p }

/-- The loop current that the output drives, µA (R31). -/
def pcvCurrent (setpoint : Nat) : Nat := 4000 + setpoint * 16000 / 100000

end Sys2Proof.Machine
end

