-- ==== Sys2Proof/Machine/Flags.lean ====
section
/-!
DEFINITION. What the rules test: usable values (R38), qualification of a bank (R39), the states of a fill (section 7.1),
holder levels, latched causes and their conditions (R181), the sweep-active condition (R34).
-/

namespace Sys2Proof.Machine

/-! ## Channels -/

/-- A usable value: present, the channel GOOD or INVALID (R38). -/
def ChanRec.usable (r : ChanRec) : Option Int := if r.state = .failed then none else r.value

/-- A pressure channel's value as a pressure in kPa; its span begins at 0 (R18). -/
def ChanRec.pressure (r : ChanRec) : Option Nat := r.value.map Int.toNat

/-- A pressure channel's usable value (R38). -/
def ChanRec.usablePressure (r : ChanRec) : Option Nat := r.usable.map Int.toNat

/-- P_b, the usable measured pressure of bank `b` (R38). -/
def State.pBank (s : State) (b : Four) : Option Nat := (s.chan (.bank b)).usablePressure

/-- P_disp, the present value of `d`'s primary pressure channel (R38). -/
def State.pDisp (s : State) (d : Four) : Option Nat := (s.chan (.primary d)).pressure

/-- The higher pressure of the two transmitters of `d`, held values included (R23). -/
def State.higherPressure (s : State) (d : Four) : Option Nat :=
  match (s.chan (.primary d)).pressure, (s.chan (.secondary d)).pressure with
  | some p, some q => some (max p q)
  | some p, none => some p
  | none, q => q

/-! ## Dispenser states (section 7.1) -/

/-- The running states. -/
def DispState.running : DispState → Bool
  | .connecting _ => true
  | .leakCheck => true
  | .waitPrecool => true
  | .fuelling => true
  | _ => false

/-- CONNECTING through ENDING (R34, R36, R190), the states in which a pulse is metered (R149). -/
def DispState.filling (p : DispState) : Bool := p.running || decide (p = .ending)

/-- Whether any dispenser is in CONNECTING through ENDING (R34, R36, R190). -/
def State.anyFilling (s : State) : Bool := s.disps.toList.any (·.state.filling)

/-- Whether the holder of `d` stands IN (R25). -/
def State.holderIn (s : State) (d : Four) : Bool := decide ((s.switch (.holder d)).settled = some .closed)

/-- The sweep-active condition, held while the sweep of a SELFTEST or of start-up runs (R34). -/
def State.sweepActive (s : State) : Bool := decide (s.field.sweep.phase ≠ .idle)

/-! ## Banks -/

/-- The bank on whose wait list `d` stands, which is where its pending request stands (R42, R46). -/
def State.waitingOn (s : State) (d : Four) : Option Four := Four.all.find? fun b => (s.bank b).waiters.contains d

/-- Whether bank `b` qualifies for dispenser `d` (R39). -/
def State.qualifies (s : State) (d b : Four) : Bool :=
  (s.dispCfg d).cascade.contains b &&
  (match s.banks.position.get d with
   | none => true
   | some p => decide ((s.bankCfg p).rank < (s.bankCfg b).rank)) &&
  decide ((s.bank b).state ≠ .isolated) && !(s.bank b).isolatePending &&
  decide ((s.valve (.bv b d)).state = .ok) &&
  (match s.pBank b, s.pDisp d with
   | some pb, some pd => decide ((s.bankCfg b).pMin ≤ pb) && decide (pd + s.work.site.dPMin ≤ pb)
   | _, _ => false)

/-! ## Station faults (R181) -/

/-- The cause codes (R181). -/
def FaultCause.code : FaultCause → Nat
  | .esd => 1 | .gasAlarm => 2 | .valveStuckOpen => 3 | .bankOverpressure => 4 | .metrology => 5 | .compressor => 6

/-- The six causes in the order of their codes. -/
def FaultCause.all : List FaultCause :=
  [.esd, .gasAlarm, .valveStuckOpen, .bankOverpressure, .metrology, .compressor]

/-- Whether a cause is latched. -/
def Latches.get (l : Latches) : FaultCause → Bool
  | .esd => l.esd
  | .gasAlarm => l.gasAlarm
  | .valveStuckOpen => l.valveStuckOpen
  | .bankOverpressure => l.bankOverpressure
  | .metrology => l.metrology
  | .compressor => l.compressor

/-- A latch set or cleared. -/
def Latches.set (l : Latches) (c : FaultCause) (v : Bool) : Latches :=
  match c with
  | .esd => { l with esd := v }
  | .gasAlarm => { l with gasAlarm := v }
  | .valveStuckOpen => { l with valveStuckOpen := v }
  | .bankOverpressure => { l with bankOverpressure := v }
  | .metrology => { l with metrology := v }
  | .compressor => { l with compressor := v }

/-- The shutdown enable of a cause; that of ESD is always 1 (R181). -/
def SiteCfg.enabled (c : SiteCfg) : FaultCause → Bool
  | .esd => true
  | .gasAlarm => c.enGas
  | .valveStuckOpen => c.enValve
  | .bankOverpressure => c.enOver
  | .metrology => c.enMetro
  | .compressor => c.enComp

/-- Whether the station is in START_UP. -/
def State.startingUp (s : State) : Bool :=
  match s.sup.station with
  | .startUp _ => true
  | _ => false

/-- Whether stage S1 of start-up has ended (R53). -/
def State.s1Ended (s : State) : Bool := decide (s.sup.station ≠ .startUp .s1)

/-- The run output: on in STARTING, RUNNING, SWITCHING and UNLOADING (R31). -/
def CompState.runOutput : CompState → Bool
  | .starting => true
  | .running => true
  | .switching => true
  | .unloading => true
  | _ => false

/-- Whether the settled running feedback disagrees with the run output (R72); an unsettled one does not (R26). -/
def State.feedbackDisagrees (s : State) : Bool :=
  match s.field.running.settled with
  | none => false
  | some l => decide ((l = .closed) ≠ (s.comp.state.runOutput = true))

/-- Whether a bank's pressure, over its rated pressure × 102 / 100, is an overpressure (R71, R181). -/
def overpressured (rated p : Nat) : Bool := decide (rated * 102 < p * 100)

/-- Whether the condition of BANK_OVERPRESSURE still holds for bank `b` (R181). -/
def State.overpressureHolds (s : State) (b : Four) : Bool :=
  (s.pBank b).elim true fun p => overpressured (s.bankCfg b).rated p

/-- The condition of a cause as it stands (R181). -/
def State.faultPresent (s : State) : FaultCause → Bool
  | .esd => decide ((s.switch .esd).settled = some .opened)
  | .gasAlarm => decide ((s.switch .gasAlarm).settled = some .opened)
  | .valveStuckOpen => allValves.any fun v => decide ((s.valve v).state = .stuckOpen)
  | .bankOverpressure => Four.all.any fun b => s.sup.latches.overSet.get b && s.overpressureHolds b
  | .metrology => s.meter.damaged
  | .compressor => s.feedbackDisagrees

end Sys2Proof.Machine
end

