-- ==== Sys2Proof/Machine/Records.lean ====
section
/-!
DEFINITION. The codes and byte layouts of section 1.8: result codes, reasons, notice kinds, sources and end causes, the
notice record and the log entry record (R17), and the numbers of channels and valves (R18, section 2.4.1).
-/

namespace Sys2Proof.Machine

/-- The RESULT byte (section 1.8, reply head). -/
def ResultCode.code : ResultCode → Nat
  | .ok => 0 | .busy => 1 | .unknownKind => 2 | .badLength => 3 | .badValue => 4 | .notNow => 5 | .refused => 6
  | .notFound => 7 | .already => 8 | .nothing => 9

/-- The reason code (section 1.8). -/
def Reason.code : Reason → Nat
  | .state => 1 | .starting => 2 | .nozzle => 3 | .filling => 4 | .compressor => 5 | .latched => 6 | .isolated => 7
  | .sealed => 8 | .openEntry => 9 | .auditFull => 10 | .notCalibrating => 11 | .shutdown => 12 | .calibrating => 13
  | .metrology => 14 | .logFull => 15 | .numbersExhausted => 16 | .noPrice => 17 | .nozzleType => 18
  | .classUndefined => 19 | .limitTooSmall => 20

/-- The end cause code (section 1.8, R126). -/
def Cause.code : Cause → Nat
  | .complete => 1 | .socReached => 2 | .limit => 3 | .stopButton => 4 | .nozzleIn => 5 | .stationStop => 6
  | .timeLimit => 7 | .vehicleAbort => 8 | .vehicleHalt => 9 | .tankHot => 10 | .supplyExhausted => 11
  | .supplyWait => 12 | .noPressure => 13 | .noSupply => 14 | .fullAtStart => 15 | .ambient => 16
  | .precoolWait => 17 | .authTimeout => 18 | .cancelled => 19 | .linkLost => 20 | .shutdown => 21 | .reset => 22
  | .powerLoss => 23 | .leak => 32 | .overpressure => 33 | .control => 34 | .sensor => 35 | .valve => 36
  | .meterMismatch => 37 | .precoolLost => 38

/-- A code of 32 or more is a fault cause (section 1.8). -/
def Cause.isFault (c : Cause) : Bool := decide (32 ≤ c.code)

/-- The notice kind code (section 1.8). -/
def NoticeKind.code : NoticeKind → Nat
  | .fillEnd => 1 | .dispenserFault => 2 | .bankLow => 3 | .refillDone => 4 | .refillFailed => 5
  | .compressorFault => 6 | .precoolGrade => 7 | .precoolLow => 8 | .logNearFull => 9 | .logFull => 10
  | .valveFault => 11 | .channelFault => 12 | .meterCreep => 13 | .linkTimeout => 14 | .stationShutdown => 15
  | .stationResumed => 16 | .sealChange => 17 | .calAbandoned => 18 | .startUpDone => 19

/-- The source kind and the source number (section 1.8). -/
def Source.codes : Source → Nat × Nat
  | .station => (0, 0)
  | .dispenser d => (1, d.num)
  | .bank b => (2, b.num)
  | .compressor => (3, 0)
  | .precool => (4, 0)

/-! ## Replies (R5, R7, R17) -/

/-- Two bytes of one dispenser's result in a broadcast reply: RESULT and DETAIL (R7). -/
def resultBytes (result : ResultCode) (detail : Nat) : List Byte := beBytes 1 result.code ++ beBytes 1 detail

/-- The bytes of a reply's data (R5, R7, R17). Widths that the spec gives a value where it keeps it are taken for the
replies of READSTATS, CAL CLOSE and AUTHORIZE too; an m_lim that does not fit the 4 bytes taken for it is sent modulo 2^32;
a report of no layout is a free value (Log 18). -/
def ReplyData.body : ReplyData → List Byte
  | .none => []
  | .bytes bs => bs
  | .status r => Config.reportBytes r
  | .broadcast rs => (rs.map fun r => resultBytes r.1 r.2).flatten
  | .broadcastReports rs => (rs.map fun r => resultBytes r.1 r.2.1 ++ Config.reportBytes r.2.2).flatten
  | .disp r => Config.reportBytes r
  | .bank r => Config.reportBytes r
  | .precool r => Config.reportBytes r
  | .cal r => Config.reportBytes r
  | .calClosed audit check => beBytes 2 audit ++ beBytes 2 check.toNat
  | .authorized number mLim cap => beBytes 4 number ++ beBytes 4 mLim ++ beBytes 4 cap
  | .counters cs => (cs.map (beBytes 2)).flatten

/-- The three bytes of the reply head: RESULT, PENDING, DETAIL (R5, section 1.8). -/
def Reply.head (r : Reply) : List Byte := beBytes 1 r.result.code ++ beBytes 1 r.pending ++ beBytes 1 r.detail

/-- The body of a reply frame: the head, then the reply data (R5). -/
def Reply.body (r : Reply) : List Byte := r.head ++ r.data.body

/-- The bytes of a reply frame over which its CRC is worked: LENGTH, KIND, TAG and BODY (section 1.8). -/
def Reply.checked (r : Reply) : List Byte := beBytes 2 r.body.length ++ [r.kind, r.tag] ++ r.body

/-- The reply frame as it is sent: SYNC, LENGTH, KIND, TAG, BODY and CRC (R5, section 1.8). -/
def Reply.frame (r : Reply) : List Byte := [0xA5] ++ r.checked ++ beBytes 2 (crc16 r.checked).toNat

/-- The bytes that a request's reply puts on the line: none until it is built (R3, R4). -/
def Service.transmits : Service → List Byte
  | .replying r => r.frame
  | .busyReplying r => r.frame
  | _ => []

/-- The reply frame in transmission to the station computer (R3, R4, R5). -/
def Link.transmits (l : Link) : List Byte := l.buffer.elim [] (·.phase.transmits)

/-- A number made of bits, bit 0 first (R17). -/
def bitFlags : List Bool → Nat
  | [] => 0
  | b :: bs => b.toNat + 2 * bitFlags bs

/-- The notice record of 10 bytes (section 1.8), with the LOST flag of R10. -/
def Notice.record (n : Notice) (lost : Bool) : List Byte :=
  beBytes 1 n.kind.code ++ beBytes 1 n.source.codes.1 ++ beBytes 1 n.source.codes.2 ++ beBytes 2 n.detail ++
    beBytes 1 (bitFlags [lost, n.clockUnset]) ++ beBytes 4 n.time.toNat

/-- The state byte of an entry (section 1.8). -/
def EntryState.code : EntryState → Nat
  | .opened => 0 | .closed => 1 | .settled => 2

/-- The comm mode byte (section 1.8). -/
def CommMode.code : CommMode → Nat
  | .noncomm => 0 | .comm => 1

/-- The grade code: 1 A, 2 B, 3 C, 4 U (section 1.8, R90). -/
def gradeCode : Grade → Nat
  | .a => 1 | .b => 2 | .c => 3 | .u => 4

/-- The usage list as an OPEN entry shows it: the grams of a held bank are shown as 0 (R174). -/
def shownUsage : List UsageItem → Bool → List UsageItem
  | [], _ => []
  | [i], true => [{ i with grams := 0 }]
  | i :: is, h => i :: shownUsage is h

/-- The usage list that LOGGET and LOGNEXT show (R174). -/
def LogEntry.shown (e : LogEntry) : List UsageItem :=
  if e.state = .opened then shownUsage e.usage e.held else e.usage

/-- The log entry record of 70 + 5n bytes (section 1.8): an absent field is sent as zero and its presence bit is clear
(R17). -/
def LogEntry.record (e : LogEntry) : List Byte :=
  beBytes 4 e.number ++ beBytes 1 e.state.code ++ beBytes 1 e.disp.num ++ beBytes 4 e.authTime.toNat ++
  [e.tariff] ++ beBytes 4 e.price ++ [e.limitKind] ++ beBytes 4 e.limitValue ++ beBytes 4 e.cap ++ e.selection ++
  beBytes 1 (bitFlags [e.startTime.isSome, e.grade.isSome, e.group.isSome]) ++
  beBytes 1 (bitFlags [e.fallback, e.disputed, e.fromCheckpoint, e.clockUnset]) ++
  beBytes 1 (e.group.elim 0 fun g => g.2.code) ++
  beBytes 4 (e.startTime.elim 0 (·.toNat)) ++ beBytes 4 e.endTime.toNat ++
  beBytes 1 (e.grade.elim 0 fun g => gradeCode g.1) ++ beBytes 1 (e.grade.elim 0 fun g => g.2) ++
  beBytes 4 (e.group.elim 0 fun _ => e.p0.getD 0) ++ beBytes 4 (e.group.elim 0 fun g => g.1) ++
  beBytes 4 e.finalPressure ++ beBytes 4 e.mass ++ beBytes 4 e.billed ++ beBytes 4 e.overrun ++
  beBytes 1 (e.cause.elim 0 (·.code)) ++ beBytes 1 e.shown.length ++
  (e.shown.map fun i => beBytes 1 i.bank.num ++ beBytes 4 i.grams).flatten

/-- The channel's number (R18). -/
def channelNumber : Channel → Nat
  | .primary d => 3 * d.num - 2
  | .secondary d => 3 * d.num - 1
  | .outlet d => 3 * d.num
  | .bank b => 12 + b.num
  | .supply => 17
  | .ambient => 18
  | .precoolOutlet => 19

/-- The source of a channel's notices (R20). -/
def channelSource : Channel → Source
  | .primary d => .dispenser d
  | .secondary d => .dispenser d
  | .outlet d => .dispenser d
  | .bank b => .bank b
  | .supply => .compressor
  | .ambient => .station
  | .precoolOutlet => .precool

/-- The valve's number (section 2.4.1). -/
def valveNumber : Valve → Nat
  | .bv b d => 4 * (b.num - 1) + d.num
  | .cv b => 16 + b.num
  | .dv d => 20 + d.num

/-- The source of a valve's notices (R29). -/
def valveSource : Valve → Source
  | .bv _ d => .dispenser d
  | .cv b => .bank b
  | .dv d => .dispenser d

/-- A detail code of a high and a low byte (R20, R29, R90, R179). -/
def detailBytes (high low : Nat) : Nat := 256 * high + low

end Sys2Proof.Machine
end

