-- ==== Sys2Proof/Machine/CompressorOps.lean ====
section
/-!
DEFINITION. The shared operations of the Compressor Scheduler (chapter 4): the refill queue, the choice, the start
conditions, delivery spells, losses, stalls, unloading, and the consequences that choices and claims have inside a step.
-/

namespace Sys2Proof.Machine

/-! ## The running feedback (R72) -/

/-- The feedback compared with the run output, at a change of either (R72); in FAULT the mismatch timer does not run. -/
def State.compareFeedback (s : State) : State :=
  s.modComp fun c =>
    { c with
      mismatch :=
        if c.state = .fault then none
        else if s.feedbackDisagrees then some (c.mismatch.getD 2000) else none }

/-! ## The queue (section 4.1) -/

/-- The refill entry of bank `b`, if it has one. -/
def State.refillEntry (s : State) (b : Four) : Option RefillEntry := s.comp.queue.find? fun e => decide (e.bank = b)

/-- The entry of bank `b` changed by `f`. -/
def Compressor.modEntry (c : Compressor) (b : Four) (f : RefillEntry → RefillEntry) : Compressor :=
  { c with queue := c.queue.map fun e => if e.bank = b then f e else e }

/-- The entry of bank `b` removed from the queue. -/
def Compressor.dropEntry (c : Compressor) (b : Four) : Compressor :=
  { c with queue := c.queue.filter fun e => decide (e.bank ≠ b) }

/-- Whether a bank's entry is eligible: the bank is neither DRAWING nor ISOLATED (R60). -/
def State.eligible (s : State) (b : Four) : Bool :=
  match (s.bank b).state with
  | .drawing _ => false
  | .isolated => false
  | _ => true

/-- The detail of REFILL_DONE: delivered mass in units of 10 g, floored, and 65,535 where it is greater (R65). -/
def doneDetail (delivered : Nat) : Nat := min top16 (delivered / 10)

/-- The totals of a bank changed by `f` (R75). -/
def Compressor.modTotals (c : Compressor) (b : Four) (f : BankTotals → BankTotals) : Compressor :=
  { c with totals := c.totals.modify b f }

/-- A refill done: its entry removed, a completed refill counted, REFILL_DONE posted (R60, R65). -/
def State.finishEntry (s : State) (e : RefillEntry) : State :=
  (s.modComp fun c =>
      (c.dropEntry e.bank).modTotals e.bank fun t => { t with completed := satInc top16 t.completed }).post
    .refillDone (.bank e.bank) (doneDetail e.delivered)

/-- Whether an eligible entry's bank already stands at or above its target (R60). -/
def State.atTarget (s : State) (e : RefillEntry) : Bool :=
  s.eligible e.bank && (s.pBank e.bank).elim false fun p => decide (e.target ≤ p)

/-- The examination of the eligible entries in queue order (R60). -/
def State.examine (s : State) : State :=
  s.comp.queue.foldl (fun t e => if s.atTarget e then t.finishEntry e else t) s

/-- The entry of highest priority among some, the earliest queued of equals (R60). -/
def bestEntry : List RefillEntry → Option RefillEntry
  | [] => none
  | e :: rest =>
    match bestEntry rest with
    | none => some e
    | some f => if e.priority < f.priority then some f else some e

/-- What the choice takes from an examined queue: an eligible entry whose bank has a usable pressure, those of the banks
`left` left out (R60, R63). -/
def State.chosen (s : State) (left : List Four) : Option RefillEntry :=
  bestEntry (s.comp.queue.filter fun e => s.eligible e.bank && (s.pBank e.bank).isSome && !left.contains e.bank)

/-! ## The start history ring and the start (R61, R62, R63) -/

/-- The age of a recorded start, modulo 2^32 (R62). -/
def startAge (clock t : Word) : Nat := (clock - t).toNat

/-- The ring cut to its newest `n` times (R62). -/
def trimRing (n : Nat) (ring : List Word) : List Word := ring.drop (ring.length - n)

/-- Whether the ring allows a start (R62). -/
def State.ringAllows (s : State) : Bool :=
  decide (s.comp.ring.length < s.work.site.startLimit) ||
    s.comp.ring.head?.elim true fun t => decide (3600 ≤ startAge s.link.clock t)

/-- The time until the oldest start is 3,600 s old (R61). -/
def State.deferralTime (s : State) : Nat :=
  s.comp.ring.head?.elim 0 fun t => (3600 - startAge s.link.clock t) * 1000

/-- Entry to STARTING (R63). -/
def State.enterStarting (s : State) : State :=
  (s.modComp fun c =>
      { c with
        state := .starting, timer := some 8000, deferred := false, deferral := none,
        ring := trimRing s.work.site.startLimit (c.ring ++ [s.link.clock]) }).compareFeedback

/-- The start conditions evaluated in IDLE (R61): the choice of condition 4 is made first (Log 14). -/
def State.evalStart (s : State) : State :=
  if s.comp.state ≠ .idle then s
  else
    let t := s.examine
    if s.sup.station = .ready ∧ s.sweepActive = false ∧ s.comp.supplyLow = false ∧ (t.chosen []).isSome then
      if t.ringAllows then t.enterStarting
      else t.modComp fun c => { c with deferred := true, deferral := some t.deferralTime }
    else t.modComp fun c => { c with deferred := false, deferral := none }

/-! ## Delivery (R64 to R71, R75) -/

/-- The delivery bank's spell closed: its mass is added to its entry and to the bank's delivered total (R75). -/
def State.closeSpell (s : State) (b : Four) : State :=
  match s.comp.spell with
  | none => s
  | some sp =>
    let m := spellMass sp.start (s.chan (.bank b)).pressure (s.bankCfg b).massFactor
    s.modComp fun c =>
      let c1 := c.modEntry b fun e => { e with delivered := e.delivered + m }
      let c2 := c1.modTotals b fun t => { t with delivered := min top32 (t.delivered + m) }
      { c2 with spell := none }

/-- The Bank Manager told that delivery into `b` has ended: a REFILLING bank becomes READY (R50). -/
def State.deliveryEnded (s : State) (b : Four) : State :=
  s.modBank b fun k => if k.state = .refilling then { k with state := .ready } else k

/-- The scheduler's part of an end of delivery into `b`: CV(b) commanded closed, the Bank Manager told, the spell closed,
the rise reference and the state timer gone (R65 to R67, R71). -/
def State.endDelivery (s : State) (b : Four) : State :=
  (((s.command (.cv b) .closed).closeSpell b).deliveryEnded b).modComp fun c =>
    let c1 := c.modEntry b fun e => { e with rise := none }
    { c1 with delivery := none, timer := none }

/-- A held delivery bank given back (R69, R72). -/
def State.giveBack (s : State) : State :=
  match s.comp.delivery with
  | none => s
  | some b => s.endDelivery b

/-- Entry to UNLOADING (R69). -/
def State.enterUnloading (s : State) : State :=
  (s.giveBack.closeAll (Four.all.map .cv)).modComp fun c => { c with state := .unloading, timer := some 6000 }

/-- Whether the compressor is STARTING, RUNNING or SWITCHING (R70, R73, R74). -/
def CompState.working : CompState → Bool
  | .starting => true
  | .running => true
  | .switching => true
  | _ => false

/-- Whether the compressor is delivering into `b`, in RUNNING or SWITCHING. -/
def Compressor.deliversInto (c : Compressor) (b : Four) : Bool :=
  (decide (c.state = .running) || decide (c.state = .switching)) && decide (c.delivery = some b)

/-- A spell begun on the delivery bank, in RUNNING (R64). -/
def State.beginSpell (s : State) (b : Four) : State :=
  s.modComp fun c =>
    let c1 := c.modEntry b fun e => { e with rise := s.pBank b }
    { c1 with state := .running, spell := some (Spell.mk (s.pBank b)), timer := some 120000 }

/-- A stall of the refill of `b`: detail 1 by the progress timer, 2 for pressure lost (R66). -/
def State.stall (s : State) (b : Four) (detail : Nat) : State × List Task :=
  let t := (s.endDelivery b).modComp (·.dropEntry b)
  let t := t.modBank b fun k => { k with refillFailed := true }
  (t.post .refillFailed (.bank b) detail, [.choose .switching []])

/-- The loss of the delivery bank `b` (R67). -/
def State.loseBank (s : State) (b : Four) : State × List Task :=
  if s.comp.deliversInto b then (s.endDelivery b, [.choose .switching []]) else (s, [])

/-- Whether the compressor can take the choice made at this occasion. -/
def Compressor.choosing (c : Compressor) : ChoiceAt → Bool
  | .spinUp => decide (c.state = .starting)
  | .switching => (decide (c.state = .running) || decide (c.state = .switching)) && decide (c.delivery = none)

/-- A choice, the claim of its bank and what follows (R60, R63, R64, R68): the bank becomes the delivery bank and its CV
is opened; a claim refused, or a CV that answers faulted, leaves the entry out and chooses again; with nothing found the
compressor enters UNLOADING. -/
def State.choose (s : State) (at_ : ChoiceAt) (left : List Four) : State × List Task :=
  if s.comp.choosing at_ then
    let t := s.examine
    match t.chosen left with
    | none => (t.enterUnloading, [])
    | some e =>
      let b := e.bank
      if (t.bank b).state ≠ .ready then (t, [.choose at_ (b :: left)])
      else if t.answersFaulted (.cv b) then (t, [.isolate b, .choose at_ (b :: left)])
      else
        let u := (t.modBank b fun k => { k with state := .refilling }).command (.cv b) .opened
        let u := u.modComp fun c => { c with delivery := some b }
        match at_ with
        | .spinUp => (u.beginSpell b, [])
        | .switching => (u.modComp fun c => { c with state := .switching, timer := some 2000 }, [])
  else (s, [])

/-- UNLOADING entered where the compressor is still working (R71 step 5). -/
def State.unload (s : State) : State := if s.comp.state.working then s.enterUnloading else s

/-! ## Demands (R58) -/

/-- An automatic refill demand for `b` (R58). -/
def State.autoDemand (s : State) (b : Four) : State :=
  let cfg := s.bankCfg b
  let t :=
    match s.refillEntry b with
    | none =>
      s.modComp fun c =>
        { c with queue := c.queue ++ [RefillEntry.mk b cfg.priority cfg.refillTarget .auto s.link.clock 0 none] }
    | some _ => s.modComp (·.modEntry b fun e => { e with priority := max e.priority cfg.priority })
  t.evalStart

/-! ## Supply, shutdown and return to service (R70, R73, R74) -/

/-- The supply judged at a sample of its channel or at its passage into FAILED (R70). -/
def State.judgeSupply (s : State) : State :=
  match (s.chan .supply).usablePressure with
  | some p =>
    if 2000 ≤ p then
      if s.comp.supplyLow then (s.modComp fun c => { c with supplyLow := false }).evalStart else s
    else if p < 1500 then
      if s.comp.supplyLow then s else (s.modComp fun c => { c with supplyLow := true }).unload
    else s
  | none => if s.comp.supplyLow then s else (s.modComp fun c => { c with supplyLow := true }).unload

/-- A compressor in IDLE or REST disabled at once (R73, R74). "Any timer is stopped" is taken of the timers of those
states, rest and deferral; a mismatch timer of R72 that is running runs on (Log 38). -/
def State.disableNow (s : State) (cause : DisableCause) : State :=
  s.modComp fun c =>
    { c with
      state := .disabled, disableCause := some cause, timer := none, deferral := none, deferred := false }

/-- The shutdown order as the scheduler takes it (R74). -/
def State.compShutdown (s : State) : State :=
  let mark (c : Compressor) : Compressor :=
    { c with disablePending := some (if c.disablePending = some .station then .station else .shutdown) }
  match s.comp.state with
  | .idle => s.disableNow .shutdown
  | .rest => s.disableNow .shutdown
  | .unloading => s.modComp mark
  | .disabled => s
  | .fault => s
  | _ => (s.modComp mark).enterUnloading

/-- A DISABLED or FAULT compressor returned to service: REST for what remains of the 30 s since the run output went off,
else IDLE with its start conditions evaluated (R73, R74). -/
def State.returnToService (s : State) : State :=
  let t := s.modComp fun c =>
    { c with
      disableCause := none, state := if c.sinceOff < 30000 then .rest else .idle,
      timer := if c.sinceOff < 30000 then some (30000 - c.sinceOff) else none }
  t.compareFeedback.evalStart

/-- The station's entry into READY by RESUME as the scheduler takes it (R74). -/
def State.compResume (s : State) : State :=
  match s.comp.state with
  | .disabled => if s.comp.disableCause = some .shutdown then s.returnToService else s
  | .unloading =>
    s.modComp fun c =>
      { c with disablePending := if c.disablePending = some .shutdown then none else c.disablePending }
  | _ => s

/-- Entry to FAULT at the mismatch timer's expiry (R72): the feedback read running with the output off gives detail 1,
stopped with it on detail 2. -/
def State.compFault (s : State) : State × List Task :=
  let detail := if s.comp.state.runOutput then 2 else 1
  let t := s.giveBack.closeAll (Four.all.map .cv)
  let t := t.modComp fun c =>
    { c with
      state := .fault, timer := none, deferral := none, deferred := false, disablePending := none,
      disableCause := none, mismatch := none, sinceOff := 0 }
  (t.post .compressorFault .compressor detail, [.latch .compressor none])

end Sys2Proof.Machine
end

