-- ==== Sys2Proof/Machine/Operands.lean ====
section
/-!
DEFINITION. The operand forms of the requests: the KINDs and body lengths of R6, the shape of the range checks of R3
step 4, the AUTHORIZE body of section 1.8, the vehicle report frame of section 6.3, and who a dispenser or bank field
names.
-/

namespace Sys2Proof.Machine

/-- The body length of a request kind; none for a KIND that is not one (R6). -/
def bodyLength (kind : Nat) : Option Nat :=
  match kind with
  | 0x01 => some 0 | 0x02 => some 0 | 0x03 => some 4 | 0x04 => some 2 | 0x05 => some 1 | 0x06 => some 0
  | 0x07 => some 2 | 0x08 => some 0
  | 0x10 => some 7 | 0x11 => some 3 | 0x12 => some 0 | 0x13 => some 9
  | 0x20 => some 14 | 0x21 => some 1 | 0x22 => some 1 | 0x23 => some 1 | 0x24 => some 1 | 0x25 => some 1
  | 0x26 => some 1
  | 0x30 => some 2 | 0x31 => some 1 | 0x32 => some 1 | 0x33 => some 0 | 0x34 => some 0 | 0x35 => some 1
  | 0x36 => some 0
  | 0x40 => some 0 | 0x41 => some 4 | 0x42 => some 4
  | 0x50 => some 0 | 0x51 => some 3 | 0x52 => some 0 | 0x53 => some 0
  | 0x60 => some 2
  | _ => none

/-! ## Bodies -/

/-- A four-byte field. -/
def word4 (w : Word) : List Byte := beBytes 4 w.toNat

/-- A two-byte field. -/
def half2 (h : Half) : List Byte := beBytes 2 h.toNat

/-- The vehicle selection bytes of an AUTHORIZE body, offsets 7 to 13 (section 1.8). -/
def AuthorizeBody.selectionBytes (a : AuthorizeBody) : List Byte :=
  [a.selection, a.classNo, a.fallbackKind, a.unused] ++ half2 a.capacity ++ [a.factor]

/-- The AUTHORIZE body (section 1.8). -/
def AuthorizeBody.bytes (a : AuthorizeBody) : List Byte :=
  [a.disp, a.tariff, a.limitKind] ++ word4 a.limitValue ++ AuthorizeBody.selectionBytes a

/-! ## Range checks (R3 step 4) -/

/-- The number in the `n` bytes of a body from offset `i`. -/
def fieldAt (body : List Byte) (i n : Nat) : Nat := beValue ((body.drop i).take n)

/-- The index of the first field that fails its check. -/
def firstBad : List (Nat × Bool) → Option Nat
  | [] => none
  | (i, good) :: rest => if good then firstBad rest else some i

/-- A number between two others. -/
def between (low high n : Nat) : Bool := decide (low ≤ n) && decide (n ≤ high)

/-- The checks of the fields of an AUTHORIZE body (section 1.8): a field that the selection does not use is not
examined. -/
def authorizeChecks (b : List Byte) : List (Nat × Bool) :=
  let kind := fieldAt b 2 1
  let value := fieldAt b 3 4
  let sel := fieldAt b 7 1
  let fb := fieldAt b 9 1
  let usesClass := decide (sel = 0) || (decide (sel = 2) && decide (fb = 0))
  let usesUser := decide (sel = 1) || (decide (sel = 2) && decide (fb = 1))
  [(1, between 1 4 (fieldAt b 0 1)), (2, between 0 7 (fieldAt b 1 1)), (3, between 0 2 kind),
   (4, match kind with
       | 0 => decide (value = 0)
       | 1 => between 1 99999999 value
       | _ => between 1 100000 value),
   (5, between 0 2 sel), (6, !usesClass || between 0 15 (fieldAt b 8 1)), (7, !decide (sel = 2) || between 0 1 fb),
   (9, !usesUser || between 100 60000 (fieldAt b 11 2)), (10, !usesUser || between 25 100 (fieldAt b 13 1))]

/-- The four numbers that a dispenser or bank field within its range names; 0 of a broadcast names none here. -/
def namedFour (b : Byte) : Option Four := Four.ofNat? b.toNat

/-! ## Vehicle report frames (section 6.3) -/

/-- What becomes of a report frame: its check fails, a field is out of range, or it is valid (R98). -/
inductive ReportJudgement where
  | checkFails
  | outOfRange
  | valid (r : Report)
deriving DecidableEq, Repr

/-- The command byte of a report. -/
def vehicleCommand : Nat → Option VehicleCommand
  | 0 => some .run | 1 => some .halt | 2 => some .abort
  | _ => none

/-- A report frame judged (R98): the check value is the CRC of its first 12 bytes, and a frame of fewer or more than 14
bytes fails its check. -/
def judgeReport (bs : List Byte) : ReportJudgement :=
  if bs.length ≠ 14 then .checkFails
  else if (crc16 (bs.take 12)).toNat ≠ fieldAt bs 12 2 then .checkFails
  else
    let capacity := fieldAt bs 3 2
    let pRep := fieldAt bs 5 4
    let tRep := beSigned16 ((bs.drop 9).take 2)
    match vehicleCommand (fieldAt bs 11 1) with
    | none => .outOfRange
    | some c =>
      if between 1 2000 capacity && decide (pRep ≤ 100000) && decide (-600 ≤ tRep) && decide (tRep ≤ 1000) then
        .valid ⟨fieldAt bs 0 3, capacity, pRep, tRep, c⟩
      else .outOfRange

end Sys2Proof.Machine
end

