-- ==== Sys2Proof/Machine/Items.lean ====
section
/-!
DEFINITION. The items of the configuration groups (R188) with their ranges, relations and value forms: R35 to R37, R77,
R96, R107, R139, R153, R185; the range checks of every request's fields, which the Link Controller makes (R3 step 4).
-/

namespace Sys2Proof.Machine

/-! ## Items -/

/-- The code of the link action (R188). -/
def linkActionCode : LinkAction → Nat
  | .hold => 0
  | .stop => 1

/-- The link action of a field (R12). -/
def linkActionOf (n : Nat) : LinkAction := if n = 1 then .stop else .hold

/-- One item of a group: its range in the value form of CFGWRITE, how it is read and how it is written (R188). -/
structure Item (α : Type) where
  good : Int → Bool
  read : α → Int
  write : α → Int → α

/-- A value between two bounds. -/
def within (low high : Int) (v : Int) : Bool := decide (low ≤ v) && decide (v ≤ high)

/-- An item that is a number in a range. -/
def natItem {α : Type} (low high : Nat) (read : α → Nat) (write : α → Nat → α) : Item α :=
  ⟨within low high, fun a => read a, fun a v => write a v.toNat⟩

/-- An item that is 0 or 1. -/
def boolItem {α : Type} (read : α → Bool) (write : α → Bool → α) : Item α :=
  ⟨within 0 1, fun a => ((read a).toNat : Int), fun a v => write a (decide (v = 1))⟩

/-- An item that is a signed number in a range. -/
def intItem {α : Type} (low high : Int) (read : α → Int) (write : α → Int → α) : Item α :=
  ⟨within low high, read, write⟩

/-- An optional number: 0 stands for absent (R96). -/
def optItem {α : Type} (low high : Nat) (read : α → Option Nat) (write : α → Option Nat → α) : Item α :=
  ⟨fun v => decide (v = 0) || within low high v, fun a => ((read a).getD 0 : Nat),
    fun a v => write a (if v = 0 then none else some v.toNat)⟩

/-! ## The groups' items -/

/-- The SITE items (R188). -/
def siteItem : Nat → Option (Item SiteCfg)
  | 1 => some (natItem 0 255 (·.linkTimeout) fun c v => { c with linkTimeout := v })
  | 2 => some (natItem 0 1 (linkActionCode ·.linkAction) fun c v => { c with linkAction := linkActionOf v })
  | 3 => some (natItem 500 10000 (·.dPMin) fun c v => { c with dPMin := v })
  | 4 => some (natItem 500 10000 (·.dPSwitch) fun c v => { c with dPSwitch := v })
  | 5 => some (natItem 1000 20000 (·.lagLimit) fun c v => { c with lagLimit := v })
  | 6 => some (natItem 5 120 (·.bankWait) fun c v => { c with bankWait := v })
  | 7 => some (natItem 1 10 (·.startLimit) fun c v => { c with startLimit := v })
  | 8 => some (natItem 80 100 (·.socComm) fun c v => { c with socComm := v })
  | 9 => some (natItem 80 100 (·.socNc) fun c v => { c with socNc := v })
  | 10 => some (natItem 10 600 (·.authTimeout) fun c v => { c with authTimeout := v })
  | 11 => some (natItem 3 30 (·.leakHold) fun c v => { c with leakHold := v })
  | 12 => some (natItem 100 2000 (·.leakDrop) fun c v => { c with leakDrop := v })
  | 13 => some (natItem 60 3600 (·.hpFillTime) fun c v => { c with hpFillTime := v })
  | 14 => some (natItem 60 3600 (·.mpFillTime) fun c v => { c with mpFillTime := v })
  | 15 => some (natItem 0 300 (·.tRef) fun c v => { c with tRef := v })
  | 16 => some (natItem 0 500 (·.closeAhead) fun c v => { c with closeAhead := v })
  | 17 => some (natItem 100 100000 (·.hpMax) fun c v => { c with hpMax := v })
  | 18 => some (natItem 100 100000 (·.mpMax) fun c v => { c with mpMax := v })
  | 19 => some (boolItem (·.enGas) fun c v => { c with enGas := v })
  | 20 => some (boolItem (·.enValve) fun c v => { c with enValve := v })
  | 21 => some (boolItem (·.enOver) fun c v => { c with enOver := v })
  | 22 => some (boolItem (·.enMetro) fun c v => { c with enMetro := v })
  | 23 => some (boolItem (·.enComp) fun c v => { c with enComp := v })
  | _ => none

/-- The BANK items (R35). Item 1, the station rank, is written as a swap (R36). -/
def bankItem : Nat → Option (Item BankCfg)
  | 1 => some (natItem 1 4 (·.rank) fun c v => { c with rank := v })
  | 2 => some (natItem 10000 100000 (·.rated) fun c v => { c with rated := v })
  | 3 => some (natItem 10 5000 (·.massFactor) fun c v => { c with massFactor := v })
  | 4 => some (natItem 1000 100000 (·.refillOn) fun c v => { c with refillOn := v })
  | 5 => some (natItem 1000 100000 (·.refillTarget) fun c v => { c with refillTarget := v })
  | 6 => some (natItem 0 3 (·.priority) fun c v => { c with priority := v })
  | 7 => some (natItem 0 20000 (·.pMin) fun c v => { c with pMin := v })
  | _ => none

/-- The relations of a bank's items (R35). -/
def bankRelations (c : BankCfg) : Bool :=
  decide (c.refillOn < c.refillTarget) && decide (c.refillTarget ≤ c.rated) && decide (c.pMin < c.refillOn)

/-- A cascade order in the packed form of CFGWRITE (R37). -/
def packCascade (bs : List Four) : Int :=
  (BitVec.ofNat 32 (beValue (bs.map (fun b => BitVec.ofNat 8 b.num) ++ List.replicate (4 - bs.length) 0))).toInt

/-- The list that the packed form names: none where the first byte is 0, a byte is outside 0 to 4, or a bank follows a
0 (R37). -/
def unpackCascade (v : Word) : Option (List Four) :=
  let bytes := word4 v
  let banks := bytes.takeWhile fun b => decide (b ≠ 0)
  if banks = [] ∨ (bytes.drop banks.length).any (fun b => decide (b ≠ 0)) = true then none
  else banks.mapM namedFour

/-- Whether banks stand in strictly ascending station rank (R37), which also excludes a bank twice. -/
def ascending (rank : Four → Nat) : List Four → Bool
  | b :: c :: rest => decide (rank b < rank c) && ascending rank (c :: rest)
  | _ => true

/-- The PRECOOL items (R77). -/
def precoolItem : Nat → Option (Item PrecoolCfg)
  | 1 => some (natItem 5000000 100000000 (·.eMax) fun c v => { c with eMax := v })
  | 2 => some (natItem 1000 30000 (·.stagePower) fun c v => { c with stagePower := v })
  | 3 => some (natItem 0 10000 (·.loss) fun c v => { c with loss := v })
  | 4 => some (natItem 8 30 (·.cp) fun c v => { c with cp := v })
  | 5 => some (natItem 10 600 (·.waitLimit) fun c v => { c with waitLimit := v })
  | 6 => some (intItem (-600) 0 (·.a.tPc) fun c v => { c with a := { c.a with tPc := v } })
  | 7 => some (intItem (-600) 0 (·.b.tPc) fun c v => { c with b := { c.b with tPc := v } })
  | 8 => some (intItem (-600) 0 (·.c.tPc) fun c v => { c with c := { c.c with tPc := v } })
  | 9 => some (intItem (-600) 100 (·.a.tLim) fun c v => { c with a := { c.a with tLim := v } })
  | 10 => some (intItem (-600) 100 (·.b.tLim) fun c v => { c with b := { c.b with tLim := v } })
  | 11 => some (intItem (-600) 100 (·.c.tLim) fun c v => { c with c := { c.c with tLim := v } })
  | 12 => some (natItem 0 100000000 (·.a.floor) fun c v => { c with a := { c.a with floor := v } })
  | 13 => some (natItem 0 100000000 (·.b.floor) fun c v => { c with b := { c.b with floor := v } })
  | 14 => some (natItem 0 100000000 (·.c.floor) fun c v => { c with c := { c.c with floor := v } })
  | _ => none

/-- The relations of the PRECOOL group (R77). -/
def precoolRelations (c : PrecoolCfg) : Bool :=
  decide (c.a.tPc < c.b.tPc) && decide (c.b.tPc < c.c.tPc) && decide (c.a.tLim < c.b.tLim) &&
    decide (c.b.tLim < c.c.tLim) && decide (c.a.tPc < c.a.tLim) && decide (c.b.tPc < c.b.tLim) &&
    decide (c.c.tPc < c.c.tLim)

/-- The items of a ramp table row of a nozzle type (R139). -/
def rampItem (z : Nozzle) : Nat → Option (Item RampRow)
  | 1 => some (natItem (rMin z) 1000 (·.r0) fun c v => { c with r0 := v })
  | 2 => some (natItem 0 50 (·.slope) fun c v => { c with slope := v })
  | 3 => some (natItem 0 500 (·.rise) fun c v => { c with rise := v })
  | _ => none

/-- The nozzle type and grade of a RAMP index (R139). -/
def rampPair : Nat → Option (Nozzle × Grade)
  | 1 => some (.hp, .a) | 2 => some (.hp, .b) | 3 => some (.hp, .c) | 4 => some (.mp, .a) | 5 => some (.mp, .b)
  | 6 => some (.mp, .c) | 7 => some (.mp, .u)
  | _ => none

/-- A ramp table row replaced. -/
def setRampRow (t : RampTable) (n : Nat) (r : RampRow) : RampTable :=
  match n with
  | 1 => { t with hpA := r }
  | 2 => { t with hpB := r }
  | 3 => { t with hpC := r }
  | 4 => { t with mpA := r }
  | 5 => { t with mpB := r }
  | 6 => { t with mpC := r }
  | _ => { t with mpU := r }

/-- Nozzle types as a value: 1 HP, 2 MP, 3 both (R96). -/
def nozzleBits (c : ClassEntry) : Nat := c.onHp.toNat + 2 * c.onMp.toNat

/-- The CLASS items of entries 1 to 15 (R95, R96). -/
def classItem : Nat → Option (Item ClassEntry)
  | 1 => some (boolItem (·.present) fun c v => { c with present := v })
  | 2 =>
    some (natItem 1 3 nozzleBits fun c v => { c with onHp := decide (v % 2 = 1), onMp := decide (2 ≤ v) })
  | 3 => some (natItem 0 16777215 (·.tankCode) fun c v => { c with tankCode := v })
  | 4 =>
    some ⟨fun v => decide (v = 0 ∨ v = 4 ∨ v = 8), fun c => c.groupWidth, fun c v => { c with groupWidth := v.toNat }⟩
  | 5 => some (natItem 100 60000 (·.capacity) fun c v => { c with capacity := v })
  | 6 => some (natItem 25 100 (·.factor) fun c v => { c with factor := v })
  | 7 => some (optItem 5000 87500 (·.pCls) fun c v => { c with pCls := v })
  | 8 => some (optItem 80 100 (·.soc) fun c v => { c with soc := v })
  | _ => none

/-- The CLASS items that entry 0 holds (R95, R96). -/
def genericItem : Nat → Option (Item GenericClass)
  | 6 => some (natItem 25 100 (·.factor) fun c v => { c with factor := v })
  | 7 => some (optItem 5000 87500 (·.pCls) fun c v => { c with pCls := v })
  | 8 => some (optItem 80 100 (·.soc) fun c v => { c with soc := v })
  | _ => none

/-- The TARIFF items (R153). -/
def tariffItem : Nat → Option (Item Tariff)
  | 1 => some (natItem 0 999999 (·.hp) fun c v => { c with hp := v })
  | 2 => some (natItem 0 999999 (·.mp) fun c v => { c with mp := v })
  | _ => none

/-! ## Group, index and item (R188) -/

/-- The index range of a group. -/
def indexGood (group index : Nat) : Bool :=
  match group with
  | 1 => decide (index = 0)
  | 2 => between 1 4 index
  | 3 => between 1 4 index
  | 4 => decide (index = 0)
  | 5 => between 1 7 index
  | 6 => decide (index ≤ 15)
  | _ => decide (index ≤ 7)

/-- The number of items of a group. -/
def itemCount : Nat → Nat
  | 1 => 23
  | 2 => 7
  | 3 => 3
  | 4 => 14
  | 5 => 3
  | 6 => 8
  | _ => 2

/-- The three checks that name an item: CFGREAD's fields (R188). -/
def readChecks (group index item : Nat) : List (Nat × Bool) :=
  [(1, between 1 7 group), (2, indexGood group index), (3, between 1 (itemCount group) item)]

/-- The index of the first field that fails to name an item. -/
def itemBad (group index item : Nat) : Option Nat := firstBad (readChecks group index item)

/-- The values that a DISPENSER item takes (R37, R107): a cascade order in its packed form names distinct banks. -/
def dispRange : Nat → Option (Word → Bool)
  | 1 => some fun v => within 1 2 v.toInt
  | 2 => some fun v => (unpackCascade v).elim false fun bs => decide bs.Nodup
  | 3 => some fun v => within 0 1 v.toInt
  | _ => none

/-- The values that lie within the range of an item; none where the group holds no such item, or entry 0 of the class
table does not (R96, R188). -/
def valueRange (group index item : Nat) : Option (Word → Bool) :=
  let signed (good : Int → Bool) (v : Word) : Bool := good v.toInt
  match group with
  | 1 => (siteItem item).map fun x => signed x.good
  | 2 => (bankItem item).map fun x => signed x.good
  | 3 => dispRange item
  | 4 => (precoolItem item).map fun x => signed x.good
  | 5 => (rampPair index).bind fun p => (rampItem p.1 item).map fun x => signed x.good
  | 6 =>
    if index = 0 then (genericItem item).map fun x => signed x.good
    else (classItem item).map fun x => signed x.good
  | _ => (tariffItem item).map fun x => signed x.good

/-- CFGWRITE's four fields (R188): the item named, and the value within its range. -/
def writeChecks (group index item : Nat) (value : Word) : List (Nat × Bool) :=
  let range := valueRange group index item
  [(1, between 1 7 group), (2, indexGood group index), (3, range.isSome), (4, range.elim true fun good => good value)]

/-! ## The fields of every request -/

/-- The checks of the fields of a request's body, by KIND (R3 step 4). -/
def fieldChecks (kind : Nat) (b : List Byte) : List (Nat × Bool) :=
  let f1 := fieldAt b 0 1
  let f2 := fieldAt b 1 1
  match kind with
  | 0x04 => [(2, between 0 1 f2)]
  | 0x05 => [(1, between 0 1 f1)]
  | 0x07 => [(1, between 1 6 f1), (2, between (if f1 = 1 then 1 else 0) 1 f2)]
  | 0x10 => writeChecks f1 f2 (fieldAt b 2 1) (BitVec.ofNat 32 (fieldAt b 3 4))
  | 0x11 => readChecks f1 f2 (fieldAt b 2 1)
  | 0x13 => [(1, between 0 7 f1), (2, between 0 999999 (fieldAt b 1 4)), (3, between 0 999999 (fieldAt b 5 4))]
  | 0x20 => authorizeChecks b
  | 0x21 => [(1, between 1 4 f1)]
  | 0x22 => [(1, between 0 4 f1)]
  | 0x23 => [(1, between 0 4 f1)]
  | 0x24 => [(1, between 0 4 f1)]
  | 0x25 => [(1, between 1 4 f1)]
  | 0x26 => [(1, between 0 4 f1)]
  | 0x30 => [(1, between 1 4 f1), (2, between 0 3 f2)]
  | 0x31 => [(1, between 1 4 f1)]
  | 0x32 => [(1, between 1 4 f1)]
  | 0x35 => [(1, between 1 4 f1)]
  | 0x51 => [(1, between 1 4 f1), (2, between 1000 60000 (fieldAt b 1 2))]
  | 0x60 => [(1, between 0 2 f1), (2, if f1 = 0 then decide (f2 = 0) else between 1 4 f2)]
  | _ => []

end Sys2Proof.Machine
end

