-- ==== Sys2Proof/Machine/Requests.lean ====
section
/-!
DEFINITION. One request at a time: the receive buffer, the checks of R3, the BUSY note of R4, replies as R5 builds them,
and the restart of link supervision by a well-formed frame (R13). A request's row is taken through `takeRequest`
(Log 1).
-/

namespace Sys2Proof.Machine

/-! ## Answers (R5) -/

/-- OK, with reply data. -/
def okData (data : ReplyData) : Answer := ⟨.ok, 0, data⟩

/-- OK, with no reply data. -/
def okAnswer : Answer := okData .none

/-- BAD_VALUE, with the index of the field. -/
def badValue (i : Nat) : Answer := ⟨.badValue, i, .none⟩

/-- NOT_NOW, with its reason. -/
def notNow (r : Reason) : Answer := ⟨.notNow, r.code, .none⟩

/-- REFUSED, with its reason. -/
def refusedFor (r : Reason) : Answer := ⟨.refused, r.code, .none⟩

/-- A result that carries neither detail nor data. -/
def bareAnswer (r : ResultCode) : Answer := ⟨r, 0, .none⟩

/-! ## Replies -/

/-- A reply to a frame of KIND `kind` and TAG `tag`: PENDING counts the notice queue as the reply is built (R5). -/
def State.reply (s : State) (kind tag : Byte) (a : Answer) : Reply :=
  { kind := kind ||| 0x80, tag := tag, result := a.result, pending := s.link.notices.length, detail := a.detail,
    data := a.data }

/-- The reply to the request in service built and its transmission begun (R3, R5). -/
def State.sendReply (s : State) (a : Answer) : State :=
  s.modLink fun l =>
    { l with buffer := l.buffer.map fun r => { r with phase := .replying (s.reply r.kind r.tag a) } }

/-- The receive buffer holding a request in a phase. -/
def State.holdRequest (s : State) (kind tag : Byte) (body : List Byte) (phase : Service) : State :=
  s.modLink fun l => { l with buffer := some ⟨kind, tag, body, phase⟩ }

/-! ## Frames -/

/-- A discarded frame counted (R1, R2, R16). -/
def State.framingError (s : State) : State := s.modLink fun l => { l with framing := satInc top16 l.framing }

/-- A well-formed frame restarts link supervision in WATCHING and in LOST (R13). -/
def State.superviseFrame (s : State) : State :=
  match s.link.supervision with
  | .off => s
  | _ => s.modLink fun l => { l with supervision := .watching, supTimer := seconds s.work.site.linkTimeout }

/-- Checks 1 to 4 of R3, in order; none where all pass. -/
def State.frameCheck (s : State) (kind : Byte) (body : List Byte) : Option Answer :=
  match bodyLength kind.toNat with
  | none => some (bareAnswer .unknownKind)
  | some n =>
    if body.length ≠ n then some (bareAnswer .badLength)
    else if s.startingUp && decide (kind ≠ 0x01) then some (notNow .starting)
    else (firstBad (fieldChecks kind.toNat body)).map badValue

/-- A well-formed frame that finds a request in service: noted for BUSY, or discarded as an overrun (R4). -/
def State.noteBusy (s : State) (kind tag : Byte) : State :=
  match s.link.note with
  | none => s.modLink fun l => { l with note := some (kind, tag) }
  | some _ => s.modLink fun l => { l with overrun := satInc top16 l.overrun }

/-- A well-formed frame (R2) as the Link Controller takes it: supervision restarts, then the frame is examined, its
request waiting for its owner where every check passes (R3), or is noted or discarded (R4). -/
def State.takeFrame (s : State) (kind tag : Byte) (body : List Byte) : State :=
  let s := s.superviseFrame
  match s.link.buffer with
  | some _ => s.noteBusy kind tag
  | none =>
    let held := s.holdRequest kind tag body .waiting
    match s.frameCheck kind body with
    | some a => held.sendReply a
    | none => held

/-- A complete frame checked (R2): LENGTH at most 250, and the CRC over LENGTH, KIND, TAG and BODY. -/
def State.completeFrame (s : State) (f : Frame) : State :=
  if 250 < f.body.length then s.framingError
  else if crc16 (beBytes 2 f.body.length ++ [f.kind, f.tag] ++ f.body) ≠ f.crc then s.framingError
  else s.takeFrame f.kind f.tag f.body

/-! ## The owner's turn -/

/-- An owner takes a request: the state it leaves, and its answer; no answer while a store to nonvolatile memory holds
the reply back (R3). -/
abbrev Owner := State → State × Option Answer

/-- The owner serves the request in the buffer (R3 step 5). -/
def State.serveRequest (s : State) (owner : Owner) : State :=
  match owner s with
  | (t, some a) => t.sendReply a
  | (t, none) => t.modLink fun l => { l with buffer := l.buffer.map fun r => { r with phase := .storing } }

/-- A request's row (Log 1): the waiting request in the buffer that it repeats is served by its owner; otherwise the row
is the arrival of the request's frame, taken as R13, R3 and R4 give and, where every check passes, served. -/
def State.takeRequest (s : State) (kind tag : Byte) (body : List Byte) (owner : Owner) : State :=
  if s.link.buffer = some ⟨kind, tag, body, .waiting⟩ then s.serveRequest owner
  else
    let t := s.takeFrame kind tag body
    if s.link.buffer = none ∧ t.link.buffer = some ⟨kind, tag, body, .waiting⟩ then t.serveRequest owner else t

/-! ## Owners of one dispenser or one bank, and broadcasts (R7) -/

/-- An owner that answers at once. -/
def answering (f : State → State × Answer) : Owner := fun s => ((f s).1, some (f s).2)

/-- An owner that only reads. -/
def reading (f : State → Answer) : Owner := fun s => (s, some (f s))

/-- An owner named by a dispenser or bank field; a field outside 1 to 4 has not passed R3 (Log 24). -/
def ownerOf (b : Byte) (f : Four → State → State × Answer) : Owner := fun s =>
  match namedFour b with
  | some d => answering (f d) s
  | none => (s, some (badValue 1))

/-- A request that one dispenser takes, or each of the four independently where the field is 0 (R7): dispensers 1 to 4 in
turn, each with all the consequences of its own (Log 9). -/
def broadcastOwner (b : Byte) (f : Four → State → State × Answer) : Owner := fun s =>
  if b = 0 then
    let p := Four.all.foldl
      (fun (p : State × List (ResultCode × Nat)) d =>
        let q := f d p.1
        (q.1, p.2 ++ [(q.2.result, q.2.detail)])) (s, [])
    (p.1, some (okData (.broadcast p.2)))
  else ownerOf b f s

end Sys2Proof.Machine
end

