-- ==== Sys2Proof/Machine/LogOps.lean ====
section
/-!
DEFINITION. The shared operations of the Transaction Log (chapter 10): a dispenser's own entry, creation, checkpoints,
closing, the near-full and full marks, settling with reclaim, the stores to nonvolatile storage, and recovery.
-/

namespace Sys2Proof.Machine

/-! ## Entries -/

/-- The entry of a number in a ring (R174). -/
def findEntry (n : Nat) (ring : List LogEntry) : Option LogEntry := ring.find? fun e => e.number == n

/-- The ring with the entry of number `n` changed by `f`. -/
def changeEntry (n : Nat) (f : LogEntry → LogEntry) (ring : List LogEntry) : List LogEntry :=
  ring.map fun e => if e.number = n then f e else e

/-- The creation under way for `d` whose entry is still OPEN (Log 11). -/
def TransLog.creationOf (g : TransLog) (d : Four) : Option Creation :=
  g.creation.filter fun c => decide (c.entry.disp = d ∧ c.entry.state = .opened)

/-- The own entry of `d` (R167), or the OPEN entry whose creation is still being stored for it (Log 11). -/
def TransLog.ownEntry (g : TransLog) (d : Four) : Option LogEntry :=
  match g.own.get d with
  | some n => findEntry n g.ring
  | none => (g.creationOf d).map (·.entry)

/-- The own entry of `d` changed by `f`; where `d` has none, nothing changes (R167). -/
def TransLog.modOwn (g : TransLog) (d : Four) (f : LogEntry → LogEntry) : TransLog :=
  match g.own.get d with
  | some n => { g with ring := changeEntry n f g.ring }
  | none =>
    match g.creationOf d with
    | some c => { g with creation := some { c with entry := f c.entry } }
    | none => g

/-! ## The marks (R170) -/

/-- The near-full and full marks tested against the count, LOG_NEAR_FULL before LOG_FULL (R170). -/
def State.testMarks (s : State) : State :=
  let count := s.log.ring.length
  let near := decide (56 ≤ count)
  let full := decide (64 ≤ count)
  let s1 := if near && !s.log.nearFull then s.post .logNearFull .station count else s
  let s2 := if full && !s.log.full then s1.post .logFull .station count else s1
  s2.modLog fun g => { g with nearFull := near, full := full }

/-! ## Creation (R169) -/

/-- The entry that an accepted AUTHORIZE creates (R169). -/
def newEntry (s : State) (d : Four) (a : AuthorizeBody) (c : Sale) : LogEntry :=
  { number := s.log.counter, state := .opened, disp := d, authTime := s.link.clock, tariff := a.tariff,
    price := c.price, limitKind := a.limitKind, limitValue := c.value, cap := c.cap, mLim := c.mLim,
    selection := AuthorizeBody.selectionBytes a, startTime := none, p0 := none, group := none, grade := none,
    fallback := false, disputed := false, fromCheckpoint := false, clockUnset := !s.link.clockSet, endTime := 0,
    finalPressure := 0, mass := 0, billed := 0, overrun := 0, cause := none, usage := [], held := false }

/-- The creation begun: the entry, its image and the increased counter go to the store as one (R169). -/
def State.beginCreation (s : State) (e : LogEntry) : State :=
  s.modLog fun g => { g with creation := some ⟨e, e⟩, stores := g.stores ++ [.create] }

/-- The creation's store complete (R169): the entry stands at the head, the counter has increased, the own entry is set
while it is OPEN, and the marks are tested. -/
def State.completeCreation (s : State) (c : Creation) : State :=
  let t := s.modLog fun g =>
    { g with
      ring := g.ring ++ [c.entry], stored := g.stored ++ [c.stored], counter := g.counter + 1, creation := none,
      own := if c.entry.state = .opened then g.own.set c.entry.disp (some c.entry.number) else g.own }
  t.testMarks

/-! ## Checkpoints (R171, R172) -/

/-- Whether `d` holds the bank of the last item of its usage list (R171, the held mark). -/
def State.holdsLast (s : State) (d : Four) (usage : List UsageItem) : Bool :=
  usage.getLast?.elim false fun i => decide (s.banks.grant.get d = some i.bank)

/-- The P0 group beyond P0: the ramp's target from the entry to FUELLING, else the least of the targets of planning, and
the comm mode (R171, R173). -/
def Fill.group (f : Fill) : Option (Nat × CommMode) :=
  match f.least, f.snapshot with
  | some least, some sn => some (f.ramp.elim least (·.target), sn.vehicle.comm)
  | _, _ => none

/-- The grade group: the grade at admission and the downgrade count, which the entry to FUELLING begins at 0 (R133,
R171). -/
def Fill.gradeGroup (f : Fill) : Option (Grade × Nat) := f.admitted.map fun g => (g, f.downgrades.getD 0)

/-- The parts of the fill record that a checkpoint and the close copy into the entry (R171, R173). -/
def LogEntry.copyFill (e : LogEntry) (f : Fill) : LogEntry :=
  { e with
    startTime := some f.startTime, clockUnset := e.clockUnset || f.startUnset, p0 := f.p0, group := f.group,
    grade := f.gradeGroup, fallback := f.fallback, usage := f.usage }

/-- The entry as a checkpoint leaves it (R171). -/
def State.checkpointed (s : State) (d : Four) (e : LogEntry) : LogEntry :=
  let m := s.meterRec d
  let e1 := { e with mass := m.mass, billed := m.sale.elim 0 fun c => billedFigure c m.mass }
  match (s.disp d).fill with
  | none => e1
  | some f => { e1.copyFill f with held := s.holdsLast d f.usage }

/-- The store of an entry's image begun, or put behind the one being written (R172). -/
def TransLog.storeImage (g : TransLog) (d : Four) (e : LogEntry) : TransLog :=
  let slot : CheckpointStore :=
    match g.checkpoints.get d with
    | none => ⟨e, none⟩
    | some w => { w with waiting := some e }
  { g with checkpoints := g.checkpoints.set d (some slot) }

/-- A checkpoint of `d`'s own entry, taken in the entry at once and begun in the store (R171, R172). -/
def State.checkpoint (s : State) (d : Four) : State :=
  match s.log.ownEntry d with
  | none => s
  | some e =>
    let e' := s.checkpointed d e
    s.modLog fun g => (g.modOwn d fun _ => e').storeImage d e'

/-! ## Closing (R173) -/

/-- The entry closed: state CLOSED, end time stamped, its store begun, the own entry none, and the checkpoint waiting
behind another dropped, since the close writes the final image (R173, Log 12). -/
def State.closeEntry (s : State) (d : Four) (f : LogEntry → LogEntry) : State :=
  match s.log.ownEntry d with
  | none => s
  | some e =>
    let e' :=
      { f e with
        state := .closed, endTime := s.link.clock, clockUnset := (f e).clockUnset || !s.link.clockSet }
    s.modLog fun g =>
      let g1 := g.modOwn d fun _ => e'
      { g1 with
        own := g1.own.set d none, stores := g1.stores ++ [.close e'],
        checkpoints := g1.checkpoints.modify d (·.map fun w => { w with waiting := none }) }

/-- The close of a pre-start close: no start time, mass, billed amount, overrun and final pressure 0, no usage (R173). -/
def State.closePreStart (s : State) (d : Four) (c : Cause) : State :=
  s.closeEntry d fun e => { e with cause := some c }

/-- The close at the end of ENDING with the final figures (R173). -/
def State.closeFinal (s : State) (d : Four) (c : Option Cause) (m : FinalFigures) : State :=
  s.closeEntry d fun e =>
    let e1 :=
      match (s.disp d).fill with
      | none => e
      | some f => { e.copyFill f with held := false }
    { e1 with
      mass := m.mass, billed := m.billed, overrun := m.overrun, cause := c, finalPressure := (s.pDisp d).getD 0 }

/-! ## Settling and reclaim (R175, R176) -/

/-- The ring with the SETTLED entries at the tail removed (R176). -/
def reclaim : List LogEntry → List LogEntry
  | [] => []
  | e :: rest => if e.state = .settled then reclaim rest else e :: rest

/-- Entry `n` settled and the tail reclaimed, its store begun, and the marks tested (R175, R176). -/
def State.settleEntry (s : State) (n : Nat) : State :=
  let ring := reclaim (changeEntry n (fun e => { e with state := .settled }) s.log.ring)
  let tail := ring.head?.elim s.log.counter (·.number)
  let t := s.modLog fun g => { g with ring := ring, stores := g.stores ++ [.settle n tail] }
  t.testMarks

/-! ## Nonvolatile storage (R172, R173, R176, R178) -/

/-- The stored ring after a store of a close or of a settling is complete. -/
def applyStore (stored : List LogEntry) : EntryStore → List LogEntry
  | .create => stored
  | .close e => changeEntry e.number (fun _ => e) stored
  | .settle n tail =>
    (changeEntry n (fun e => { e with state := .settled }) stored).filter fun e => decide (tail ≤ e.number)

/-- A checkpoint image replaces the stored image of an entry still OPEN in the store (R172). -/
def applyImage (stored : List LogEntry) (e : LogEntry) : List LogEntry :=
  stored.map fun o => if o.number = e.number ∧ o.state = .opened then e else o

/-! ## Recovery (R177) -/

/-- The usage list of a recovered entry: where the held mark is set, the last item takes the mass left by the items
before it (R177). -/
def recoveredUsage (mass : Nat) : List UsageItem → Bool → List UsageItem
  | [], _ => []
  | [i], true => [{ i with grams := mass }]
  | i :: is, h => i :: recoveredUsage (mass - i.grams) is h

/-- The entry closed from its image (R177). -/
def State.recovered (s : State) (e : LogEntry) : LogEntry :=
  { e with
    state := .closed, overrun := e.mass - e.mLim, usage := recoveredUsage e.mass e.usage e.held, held := false,
    finalPressure := 0, cause := some (if s.sup.resetKind = .powerOn then .powerLoss else .reset),
    endTime := s.link.clock, clockUnset := e.clockUnset || !s.link.clockSet, fromCheckpoint := true }

/-- The first OPEN entry from the tail (R177). -/
def firstOpen (ring : List LogEntry) : Option LogEntry := ring.find? fun e => decide (e.state = .opened)

/-- The log after a reset (R178): the ring as it stood at the last complete store, the volatile part cleared. -/
def TransLog.afterReset (g : TransLog) : TransLog :=
  { g with
    ring := g.stored, own := .fill none, nearFull := false, full := false, creation := none, stores := [],
    checkpoints := .fill none, recovering := none }

end Sys2Proof.Machine
end

