-- ==== Sys2Proof/Machine/BankOps.lean ====
section
/-!
DEFINITION. The shared operations of the Bank Manager (chapter 3): draw windows and their check by the Meter Unit
(R55, R158, R159), the grant walk (R42), grants, handovers and releases (R43 to R45), wait lists (R46 to R48),
isolation (R49), the switch tests (R40, R41) and the LOW flag (R53).
-/

namespace Sys2Proof.Machine

/-! ## Draw windows -/

/-- The window opened at a grant (R55), its failure count 0 (R159). -/
def State.openWindow (s : State) (d b : Four) : Window :=
  { disp := d, grantTime := s.link.clock, pStart := (s.pBank b).getD 0, nGrant := (s.meterRec d).pulses,
    check := some 10000, failures := 0 }

/-- The mass metered since the grant (R158). -/
def State.windowMass (s : State) (w : Window) : Nat :=
  massOf ((s.meterRec w.disp).pulses - w.nGrant) (s.meter.cal.factors.get w.disp)

/-- The failure count after the Meter Unit has taken a window of bank `b` (R158, R159): skipped below 500 g or where the
bank's channel is not GOOD, else a pass sets it to 0 and a failure adds 1. -/
def State.windowFailures (s : State) (b : Four) (w : Window) : Nat :=
  let m := s.windowMass w
  let r := s.chan (.bank b)
  match r.state, r.pressure with
  | .good, some p =>
    if m < 500 then w.failures
    else if windowPasses m (estimatedMass w.pStart p (s.bankCfg b).massFactor) then 0
    else min 2 (w.failures + 1)
  | _, _ => w.failures

/-- The consequence of a count that reaches 2 (R159). -/
def mismatchTasks (w : Window) (failures : Nat) : List Task :=
  if failures = 2 ∧ w.failures ≠ 2 then [.mismatch w.disp] else []

/-! ## Wait lists -/

/-- `d` removed from every wait list and its bank wait timer stopped (R47, R48). -/
def State.leaveWaitLists (s : State) (d : Four) : State :=
  s.modBanks fun k =>
    { k with
      recs := k.recs.map fun r => { r with waiters := r.waiters.filter fun w => decide (w ≠ d) },
      wait := k.wait.set d none }

/-- `d` appended to the wait list of `b`, its bank wait timer started, WAIT_BANK set in FUELLING (R46). -/
def State.joinWaitList (s : State) (d b : Four) : State :=
  let t := s.modBank b fun k => { k with waiters := k.waiters ++ [d] }
  let t := t.modBanks fun k => { k with wait := k.wait.set d (seconds s.work.site.bankWait) }
  t.modDisp d fun p => { p with waitBank := p.waitBank || decide (p.state = .fuelling) }

/-! ## The grant walk (R42, R48) -/

/-- Whether a walk grants the bank as it stands: READY or REFILLING (R42). -/
def BankState.free : BankState → Bool
  | .ready => true
  | .refilling => true
  | _ => false

/-- The banks of `d`'s order that qualify, that of an expired wait left out (R42, R48). -/
def State.candidates (s : State) (d : Four) (expired : Option Four) : List Four :=
  (s.dispCfg d).cascade.filter fun b => s.qualifies d b && decide (expired ≠ some b)

/-- Whether `d`'s request can be walked: in FUELLING, or in CONNECTING awaiting a bank. -/
def DispState.asksForBank (p : DispState) : Bool := decide (p = .fuelling) || decide (p = .connecting .bank)

/-- The grant walk (R42); after a bank wait expiry it notes no busy bank (R48). -/
def State.walk (s : State) (d : Four) (expired : Option Four) : State × List Task :=
  let p := (s.disp d).state
  if p.asksForBank then
    let cs := s.candidates d expired
    match cs.find? fun b => (s.bank b).state.free with
    | some b => (s, [.grant d b])
    | none =>
      match (if expired.isSome then none else cs.head?) with
      | some b => (s.joinWaitList d b, [])
      | none =>
        (s, [.endCause d
          (if p = .fuelling then (if expired.isSome then .supplyWait else .supplyExhausted) else .noSupply)])
  else (s, [])

/-! ## Grant and release (R43 to R45) -/

/-- The Bank Manager's part of a grant (R43). -/
def State.recordGrant (s : State) (d b : Four) : State :=
  let fuelling := decide ((s.disp d).state = .fuelling)
  let w := s.openWindow d b
  let t := s.modBank b fun k => { k with state := .drawing d, window := some w }
  let t := t.modBanks fun k =>
    { k with
      grant := k.grant.set d (some b), lag := k.lag.set d 0, wait := k.wait.set d none,
      position := if fuelling then k.position.set d (some b) else k.position }
  if fuelling then t.modFill d fun f => { f with usage := f.usage ++ [⟨b, 0⟩] } else t

/-- A grant of `b` to `d` (R43, R44): a preempted refill is lost, a bank held before is released, and the grant is handed
to the dispenser. Where both a loss and a release follow, either is told first (12.2.2, Log 7). -/
def State.grant (s : State) (d b : Four) : State × List Task :=
  let lost := decide ((s.bank b).state = .refilling)
  let old := s.banks.grant.get d
  let t := (s.recordGrant d b).evalStart
  match lost, old with
  | false, none => (t, [.takeGrant d b none])
  | true, none => (t, [.lose b, .takeGrant d b none])
  | false, some b0 => (t, [.release b0 d, .takeGrant d b old])
  | true, some b0 =>
    ({ t with freeIx := t.freeIx + 1 },
      if Config.lossToldFirst t.freeIx then [.lose b, .release b0 d, .takeGrant d b old]
      else [.release b0 d, .lose b, .takeGrant d b old])

/-- The grams of a bank's usage item (R45). -/
def setGrams (b : Four) (m : Nat) (usage : List UsageItem) : List UsageItem :=
  usage.map fun i => if i.bank = b then { i with grams := m } else i

/-- Release, steps 1 and 2 (R45): the window is closed and taken by the Meter Unit, its grams complete the usage item,
and the grant ends; then the bank is freed. -/
def State.release (s : State) (b d : Four) : State × List Task :=
  if (s.bank b).state = .drawing d then
    let t := s.modBank b fun k => { k with window := none }
    let t := t.modBanks fun k =>
      { k with grant := if k.grant.get d = some b then k.grant.set d none else k.grant }
    match (s.bank b).window with
    | none => (t, [.freeBank b])
    | some w =>
      (t.modFill d fun f =>
        { f with
          usage := setGrams b (s.windowMass w) f.usage,
          currentBank := if f.currentBank = some b then none else f.currentBank },
        mismatchTasks w (s.windowFailures b w) ++ [.freeBank b])
  else (s, [])

/-- Release, steps 3 to 5 (R45): a pending isolation is completed and the waiters re-walked, else they are served. -/
def State.freeBank (s : State) (b : Four) : State × List Task :=
  if (s.bank b).isolatePending then
    ((s.modBank b fun k => { k with state := .isolated, isolatePending := false }).evalStart, [.rewalk b])
  else (s.modBank b fun k => { k with state := .ready }, [.serve b])

/-- The wait list of a freed bank served from its oldest end until the bank is granted or the list is empty (R47); once
it is empty the scheduler is told that the bank is free (R45 step 5). A bank that the re-walk of a waiter has left
REFILLING is still free to fuel (section 3.2), so the next oldest waiter is taken. -/
def State.serveWaiters (s : State) (b : Four) : State × List Task :=
  if (s.bank b).state.free then
    match (s.bank b).waiters with
    | [] => (s.evalStart, [])
    | w :: _ =>
      let t := s.leaveWaitLists w
      if t.qualifies w b then (t, [.grant w b]) else (t, [.walk w none, .serve b])
  else (s, [])

/-- The waiters of an isolated bank walked afresh, the oldest first (R49). -/
def State.rewalkWaiters (s : State) (b : Four) : State × List Task :=
  match (s.bank b).waiters with
  | [] => (s, [])
  | w :: _ => (s.leaveWaitLists w, [.walk w none, .rewalk b])

/-! ## Isolation and switch demands -/

/-- ISOLATE, and the two faults taken as though by it (R49, R52). -/
def State.isolateBank (s : State) (b : Four) : State × List Task :=
  match (s.bank b).state with
  | .ready => ((s.modBank b fun k => { k with state := .isolated }).evalStart, [.rewalk b])
  | .refilling => (s.modBank b fun k => { k with state := .isolated }, [.lose b, .rewalk b])
  | .drawing d =>
    if (s.bank b).isolatePending then (s, [])
    else (s.modBank b fun k => { k with isolatePending := true }, [.switchDemand d, .rewalk b])
  | .isolated => (s, [])

/-- An immediate switch demand for `d` (R41). -/
def State.switchDemand (s : State) (d : Four) : State × List Task :=
  if (s.disp d).state = .fuelling ∧ (s.banks.grant.get d).isSome ∧ s.waitingOn d = none then (s, [.walk d none])
  else (s, [])

/-- The margin test (R40): it holds where the bank has no usable pressure. -/
def State.marginLow (s : State) (d b : Four) : Bool :=
  match s.pBank b with
  | none => true
  | some pb => (s.pDisp d).elim false fun pd => decide (pb < pd + s.work.site.dPSwitch)

/-- The lag count after the lag test of a step whose setpoint is `pSet` (R40). -/
def State.lagAfter (s : State) (d : Four) (pSet : Nat) : Nat :=
  if (s.pDisp d).elim false fun pd => decide (pd + s.work.site.lagLimit < pSet) then min 3 (s.banks.lag.get d + 1)
  else 0

/-- The switch tests of a ramp step (R40, R120 part 3). -/
def State.switchTests (s : State) (d : Four) : State × List Task :=
  match s.banks.grant.get d, s.waitingOn d, (s.disp d).fill.bind (·.ramp) with
  | some b, none, some r =>
    if (s.disp d).state = .fuelling then
      let lag := s.lagAfter d r.setpoint
      let t := s.modBanks fun k => { k with lag := k.lag.set d lag }
      if s.marginLow d b || decide (lag = 3) then (t, [.walk d none]) else (t, [])
    else (s, [])
  | _, _, _ => (s, [])

/-! ## The LOW flag (R53) -/

/-- The LOW flag tested against a GOOD sample of value `p` (R53). -/
def State.lowTest (s : State) (b : Four) (p : Nat) : State :=
  let cfg := s.bankCfg b
  let k := s.bank b
  if !k.low && decide (p < cfg.refillOn) then
    let t := (s.modBank b fun k => { k with low := true }).post .bankLow (.bank b) (p / 100)
    if k.refillFailed || decide (k.state = .isolated) then t else t.autoDemand b
  else if k.low && decide (cfg.refillTarget ≤ p) then
    s.modBank b fun k => { k with low := false, refillFailed := false }
  else s

end Sys2Proof.Machine
end

