-- ==== Sys2Proof/Machine/FillOps.lean ====
section
/-!
DEFINITION. The shared operations of a fill (chapters 5 to 8): end causes and ENDING (R126, R129), the pre-start close
(R110), the connection pulse (R114), planning with its vehicle resolution (R100, R101, R117), admission (R84 to R86),
the entry to FUELLING (R119), recomputation (R146, R147), fallback (R105) and downgrade (R89 to R91).
-/

namespace Sys2Proof.Machine

/-! ## End causes -/

/-- A dispenser on its way to IDLE goes on to CLOSED where CLOSE_PENDING is set, which is then cleared (R110, R130,
R131). -/
def Dispenser.toService (p : Dispenser) : Dispenser :=
  { p with state := if p.closePending then .closed else .idle, closePending := false }

/-- The causes that take a pre-start close in AUTHORIZED (R110). -/
def Cause.preStart : Cause → Bool
  | .cancelled => true
  | .stationStop => true
  | .authTimeout => true
  | .linkLost => true
  | .shutdown => true
  | .reset => true
  | _ => false

/-- A pre-start close (R110). -/
def State.preStartClose (s : State) (d : Four) (c : Cause) : State :=
  let t := (s.modTimers d fun m => { m with auth := none }).closePreStart d c
  let t := t.post .fillEnd (.dispenser d) c.code
  let t := t.modDisp d fun p => { p.toService with captured := none }
  t.modMeterRec d fun m => { m with sale := none }

/-- The valves of a dispenser's path: DV(d) and every BV(b,d). -/
def pathValves (d : Four) : List Valve := .dv d :: Four.all.map fun b => .bv b d

/-- A place on the precool wait list left (R88). -/
def State.leavePrecoolList (s : State) (d : Four) : State :=
  s.modPrecool fun p => { p with waitList := p.waitList.filter fun w => decide (w.request.disp ≠ d) }

/-- Entry to ENDING, steps 1 to 3 (R129); the release of a held bank and the rest of the entry follow. -/
def State.enterEnding (s : State) (d : Four) (c : Cause) : State × List Task :=
  let t := s.modDisp d fun p =>
    { p with
      state := .ending, fill := p.fill.map fun f => { f with cause := some c }, waitBank := false,
      overshoot := false, vehicleHalt := false, timers := noTimers }
  let t := (t.leaveWaitLists d).leavePrecoolList d
  let t := (t.closeAll (pathValves d)).setPcv d 0
  match s.banks.grant.get d with
  | some b => (t, [.release b d, .endingRest d])
  | none => (t, [.endingRest d])

/-- An end cause as the dispenser takes it in its state (R126). -/
def State.endCause (s : State) (d : Four) (c : Cause) : State × List Task :=
  let p := (s.disp d).state
  if p.running then s.enterEnding d c
  else if p = .authorized ∧ c.preStart = true then (s.preStartClose d c, [])
  else (s, [])

/-- Entry to ENDING, steps 5 to 8 (R129): the receiver returns to IDLE, a dispenser without a reservation receives the
empty one (R92), the settle timer starts and a checkpoint is taken. The position is cleared with the fill (R39). R92 gives
the empty reservation no warm count: the model holds 0 (Log 39). -/
def State.endingRest (s : State) (d : Four) : State :=
  let t := s.modReceiver d fun r => { r with watch := .idle }
  let t := t.modPrecool fun p =>
    { p with table := p.table.modify d fun r => some (r.getD (Reservation.mk none 0 0 0)) }
  let t := t.modTimers d fun m => { m with ending := some 2000 }
  let t := t.modBanks fun k => { k with position := k.position.set d none }
  t.checkpoint d

/-- METER_MISMATCH: the DISPUTED flag and its checkpoint, then the end cause (R159, R171). -/
def State.mismatch (s : State) (d : Four) : State × List Task :=
  ((s.modLog fun g => g.modOwn d fun e => { e with disputed := true }).checkpoint d, [.endCause d .meterMismatch])

/-! ## Grants as the dispenser takes them -/

/-- The nozzle type of `d`'s fill; without a fill record, that of its configuration (Log 24). -/
def State.fillNozzle (s : State) (d : Four) : Nozzle :=
  (s.disp d).fill.elim (s.dispCfg d).nozzle (·.nozzle)

/-- Phase PULSE entered at a grant in phase BANK (R114). -/
def State.beginPulse (s : State) (d b : Four) : State × List Task :=
  let stuck := s.answersFaulted (.bv b d) || s.answersFaulted (.dv d)
  let t := s.setPcv d (min (pCeiling (s.fillNozzle d)) ((s.pDisp d).getD 0 + 2000))
  let t := (t.command (.bv b d) .opened).command (.dv d) .opened
  let t := t.modDisp d fun p =>
    { p with state := .connecting .pulse, timers := { p.timers with pulse := some 1000 } }
  (t, if stuck then [.endCause d .valve] else [])

/-- A grant in FUELLING, a handover where a bank was held (R123). -/
def State.beginDraw (s : State) (d b : Four) (old : Option Four) : State × List Task :=
  let t := old.elim s fun b0 => s.command (.bv b0 d) .closed
  let dvShut := decide ((t.valve (.dv d)).commanded = .closed)
  let stuck := t.answersFaulted (.bv b d) || (dvShut && t.answersFaulted (.dv d))
  let t := (t.command (.bv b d) .opened).command (.dv d) .opened
  let t := t.modDisp d fun p =>
    { p with waitBank := false, fill := p.fill.map fun f => { f with currentBank := some b } }
  let t := if old.isSome then t.checkpoint d else t
  (t, if stuck then [.endCause d .valve] else [])

/-- A grant handed to its dispenser, in its state. -/
def State.takeGrant (s : State) (d b : Four) (old : Option Four) : State × List Task :=
  if s.banks.grant.get d = some b then
    match (s.disp d).state with
    | .connecting .bank => s.beginPulse d b
    | .fuelling => s.beginDraw d b old
    | _ => (s, [])
  else (s, [])

/-! ## The vehicle (R97, R100, R101) -/

/-- Whether an entry allows a nozzle type. -/
def classAllows (c : ClassEntry) : Nozzle → Bool
  | .hp => c.onHp
  | .mp => c.onMp

/-- Entry `n`, 1 to 15, of the class table; entry 0 counts as absent for naming (R95). -/
def namedClass (w : WorkConfig) (n : Nat) : Option ClassEntry :=
  if n = 0 then none else (w.classes[n - 1]?).filter (·.present)

/-- AUTO matching (R101): the first present entry, in number order, that allows the nozzle type and whose code agrees
once the group width is set aside. -/
def matchClass (z : Nozzle) (code : Nat) : Nat → List ClassEntry → Option (Nat × ClassEntry)
  | _, [] => none
  | n, c :: rest =>
    if c.present && classAllows c z && decide (code / 2 ^ c.groupWidth = c.tankCode / 2 ^ c.groupWidth) then
      some (n, c)
    else matchClass z code (n + 1) rest

/-- The capacity that entry 0 takes from a report's litres (R100). -/
def reportedCapacity (z : Nozzle) (litres : Nat) : Nat :=
  min 60000 (max 100 (litres * (match z with | .hp => 40 | .mp => 24)))

/-- The age, in 0.1 s, at which a running freshness timer expires (R99). -/
def freshAge : Nat := 20

/-- A receiver's fresh report (R99): while the freshness timer runs, and never past the age at which it expires. -/
def VehicleReceiver.freshReport (r : VehicleReceiver) : Option Report :=
  if r.fresh.isSome ∧ r.age ≤ freshAge then r.last else none

/-- Resolution of the vehicle at planning (R100). -/
def State.resolveVehicle (s : State) (d : Four) (c : Captured) : Vehicle :=
  let site := s.work.site
  let captured (mode : CommMode) (used : ClassUsed) (soc : Nat) : Vehicle :=
    ⟨mode, used, c.capacity, c.factor, c.pCls, soc⟩
  match (s.receiver d).freshReport with
  | none =>
    match c.selection with
    | .cls n => captured .noncomm (.entry n) site.socNc
    | .autoCls n => captured .noncomm (.entry n) site.socNc
    | .user => captured .noncomm .user site.socNc
    | .autoUser => captured .noncomm .user site.socNc
  | some r =>
    let auto : Vehicle :=
      match matchClass (s.fillNozzle d) r.tankCode 1 s.work.classes with
      | some (n, e) => ⟨.comm, .entry n, e.capacity, e.factor, e.pCls, e.soc.getD site.socComm⟩
      | none =>
        let g := s.work.generic
        ⟨.comm, .entry 0, reportedCapacity (s.fillNozzle d) r.capacity, g.factor, g.pCls, g.soc.getD site.socComm⟩
    match c.selection with
    | .cls n => captured .comm (.entry n) (c.soc.getD site.socComm)
    | .user => captured .comm .user site.socComm
    | .autoCls _ => auto
    | .autoUser => auto

/-! ## Planning (R117, R140, R143) -/

/-- The ambient stage (R140): the clamped T_amb, or none where the fill ends AMBIENT. -/
def ambientStage (r : ChanRec) : Option Int :=
  match r.value with
  | none => none
  | some v =>
    if r.state ≠ .good ∧ 6000 < r.age then none
    else if 500 < v then none
    else some (max (-400) v)

/-- The target of a grade under a snapshot and a SOC limit (R141). -/
def Snapshot.target (sn : Snapshot) (z : Nozzle) (soc : Nat) (row : RampRow) : Nat :=
  targetPressure z sn.vehicle.pCls soc sn.tAmb row

/-- The ramp rate of a grade under a snapshot (R142). -/
def Snapshot.rate (sn : Snapshot) (z : Nozzle) (row : RampRow) : Nat :=
  rampRate z row sn.tRef sn.vehicle.factor sn.tAmb

/-- The least of some targets (R117 step 4). -/
def leastTarget : List Nat → Nat
  | [] => 0
  | [p] => p
  | p :: rest => min p (leastTarget rest)

/-- The snapshot of a planning at ambient `tAmb` (R117, R139). -/
def State.takeSnapshot (s : State) (d : Four) (tAmb : Int) (c : Captured) : Snapshot :=
  let z := s.fillNozzle d
  { tAmb := tAmb, vehicle := s.resolveVehicle d c,
    ramp := (gradesAllowed z).map fun g => (g, RampTable.row s.work.ramp z g), tRef := s.work.site.tRef,
    socNc := s.work.site.socNc }

/-- The planning figures of each allowed grade (R144). -/
def planFigures (z : Nozzle) (sn : Snapshot) (p0 mLim : Nat) : List (Grade × Figures) :=
  sn.ramp.map fun x =>
    let target := sn.target z sn.vehicle.soc x.2
    (x.1, ⟨target, sn.rate z x.2, expectedMass mLim sn.vehicle.capacity target p0⟩)

/-- The heat reserved for the other dispensers (R84). -/
def Precool.others (p : Precool) (d : Four) : Nat :=
  (Four.all.map fun e => if e = d then 0 else (p.table.get e).elim 0 (·.reserved)).sum

/-- T_pco, valid only while channel 19 is GOOD (R80). -/
def State.tPco (s : State) : Option Int :=
  let r := s.chan .precoolOutlet
  if r.state = .good then r.value else none

/-- The admission test (R84): the first grade that passes. -/
def State.admissionTest (s : State) (q : AdmissionRequest) : Option (Grade × Figures) :=
  let c := s.work.precool
  q.figures.find? fun x =>
    outletAdmits c s.tPco x.1 && reserveAdmits c s.precool.reserve (s.precool.others q.disp) q.tAmb x.1 x.2.expected

/-- The reservation of an admission at grade `g` (R84). -/
def State.reserve (s : State) (q : AdmissionRequest) (g : Grade) (f : Figures) : State :=
  let h := heatPerGram s.work.precool q.tAmb g
  s.modPrecool fun p => { p with table := p.table.set q.disp (some (Reservation.mk (some g) h (f.expected * h) 0)) }

/-- The wait list joined at its newest end, WAIT_PRECOOL entered and its checkpoint taken (R85, R86, R171). -/
def State.joinPrecoolList (s : State) (q : AdmissionRequest) : State :=
  let t := s.modPrecool fun p =>
    { p with waitList := p.waitList ++ [PrecoolPlace.mk q (seconds s.work.precool.waitLimit)] }
  (t.modDisp q.disp fun p => { p with state := .waitPrecool }).checkpoint q.disp

/-- An admission request at planning (R85): tested at once where nobody waits, else at the newest end of the list. -/
def State.takeAdmission (s : State) (q : AdmissionRequest) : State × List Task :=
  match s.precool.waitList, s.admissionTest q with
  | [], some (g, f) => (s.reserve q g f, [.enterFuelling q.disp g f])
  | _, _ => (s.joinPrecoolList q, [])

/-- The head of the wait list tested, and further heads as long as each is admitted (R86). -/
def State.admitHead (s : State) : State × List Task :=
  match s.precool.waitList with
  | [] => (s, [])
  | w :: rest =>
    match s.admissionTest w.request with
    | none => (s, [])
    | some (g, f) =>
      let t := s.modPrecool fun p => { p with waitList := rest }
      (t.reserve w.request g f, [.enterFuelling w.request.disp g f, .admitHead])

/-- Planning (R117). -/
def State.plan (s : State) (d : Four) : State × List Task :=
  match (s.disp d).fill, (s.disp d).captured, ambientStage (s.chan .ambient) with
  | some f, some c, some tAmb =>
    let z := f.nozzle
    let sn := s.takeSnapshot d tAmb c
    let p0 := f.p0.getD 0
    let figures := planFigures z sn p0 ((s.meterRec d).sale.elim 0 (·.mLim))
    let least := leastTarget (figures.map fun x => x.2.target)
    let watch : Watch := match sn.vehicle.comm with | .comm => .pending | .noncomm => .idle
    let t := s.modReceiver d fun r => { r with watch := watch, disagree := 0 }
    let t := t.modFill d fun f => { f with snapshot := some sn, least := some least }
    if least ≤ p0 then (t, [.endCause d .fullAtStart]) else t.takeAdmission ⟨d, tAmb, figures⟩
  | _, _, _ => (s, [.endCause d .ambient])

/-! ## Fuelling (R119, R146, R147) -/

/-- The fill time limit of a nozzle type in seconds (R107). -/
def fillTimeLimit (c : SiteCfg) : Nozzle → Nat
  | .hp => c.hpFillTime
  | .mp => c.mpFillTime

/-- VEHICLE_HALT set; from clear, its timer starts (R122). -/
def Dispenser.setHalt (p : Dispenser) : Dispenser :=
  if p.vehicleHalt then p
  else { p with vehicleHalt := true, timers := { p.timers with halt := some 10000 } }

/-- VEHICLE_HALT cleared with its timer (R122). -/
def Dispenser.clearHalt (p : Dispenser) : Dispenser :=
  { p with vehicleHalt := false, timers := { p.timers with halt := none } }

/-- The PCV set to the setpoint in force of `d`'s ramp (R120, R124). -/
def State.commandSetpoint (s : State) (d : Four) : State :=
  match (s.disp d).fill.bind (·.ramp) with
  | some r => s.setPcv d r.setpoint
  | none => s

/-- Entry to FUELLING at grade `g`, steps 1 to 4 (R119, R102). -/
def State.enterFuelling (s : State) (d : Four) (g : Grade) (f : Figures) : State × List Task :=
  if (s.disp d).state = .leakCheck ∨ (s.disp d).state = .waitPrecool then
    let z := s.fillNozzle d
    let t := s.modDisp d fun p =>
      { p with
        state := .fuelling,
        fill := p.fill.map fun r =>
          { r with
            ramp := some (Ramp.mk g f.target f.rate f.expected (r.p0.getD 0) 0 none), admitted := some g,
            downgrades := some 0 },
        timers := { p.timers with leak := none, ramp := some 1000, fill := seconds (fillTimeLimit s.work.site z) } }
    let t := t.commandSetpoint d
    if (s.receiver d).watch = .pending then
      let t := t.modReceiver d fun r => { r with watch := .watching }
      match (s.receiver d).freshReport with
      | none => (t, [.fallback d, .fuelRequest d])
      | some r =>
        (if r.command = .halt then t.modDisp d (·.setHalt) else t, [.fuelRequest d])
    else (t, [.fuelRequest d])
  else (s, [])

/-- Entry to FUELLING, steps 5 and 6 (R119): the outlet temperature channel, then the request for a bank. -/
def State.fuelRequest (s : State) (d : Four) : State × List Task :=
  if (s.disp d).state = .fuelling then
    if (s.chan (.outlet d)).state = .failed then (s, [.endCause d .sensor])
    else (s, [.walk d none, .fuelCheckpoint d])
  else (s, [])

/-- The figures of a recomputation at grade `g` and SOC limit `soc`, with `m` grams metered (R146, R147). -/
def Ramp.recompute (r : Ramp) (z : Nozzle) (sn : Snapshot) (g : Grade) (soc m : Nat) : Ramp :=
  match sn.ramp.find? fun x => decide (x.1 = g) with
  | none => r
  | some x =>
    let target := sn.target z soc x.2
    { r with
      grade := g, target := target, rate := sn.rate z x.2, base := min r.setpoint target, k := 0,
      left := some (r.expected - m) }

/-- The fill record recomputed at grade `g` and SOC limit `soc` (R124, R146). -/
def Fill.recompute (f : Fill) (g : Grade) (soc m : Nat) : Fill :=
  match f.snapshot, f.ramp with
  | some sn, some r =>
    { f with
      ramp := some (r.recompute f.nozzle sn g soc m),
      snapshot := some { sn with vehicle := { sn.vehicle with soc := soc } } }
  | _, _ => f

/-- Whether the primary channel is GOOD and at or above the target (R121, R124). -/
def State.atRampTarget (s : State) (d : Four) : Bool :=
  match (s.chan (.primary d)).state, s.pDisp d, (s.disp d).fill.bind (·.ramp) with
  | .good, some p, some r => decide (r.target ≤ p)
  | _, _, _ => false

/-- The end of a recomputation whose pressure already stands at the new target (R124 step 3). -/
def State.completeTasks (s : State) (d : Four) : List Task :=
  if s.atRampTarget d then [.endCause d .complete] else []

/-- The fallback of a fill (R105). -/
def State.fallback (s : State) (d : Four) : State × List Task :=
  if (s.disp d).state = .fuelling then
    let t := s.modReceiver d fun r =>
      { r with watch := .idle, disagree := 0, fallbacks := satInc top16 r.fallbacks }
    let m := (s.meterRec d).mass
    let t := t.modDisp d (·.clearHalt)
    let t := t.modFill d fun f =>
      let f1 :=
        match f.snapshot, f.ramp with
        | some sn, some r => f.recompute r.grade sn.socNc m
        | _, _ => f
      { f1 with
        fallback := true,
        snapshot := f1.snapshot.map fun sn => { sn with vehicle := { sn.vehicle with comm := .noncomm } } }
    let t := t.commandSetpoint d
    (t, t.completeTasks d)
  else (s, [])

/-- The warm count after the test of a ramp step (R89): T_lim is the one in force, the margin 2.0 °C. -/
def warmAfter (tLim : Int) (r : ChanRec) (warm : Nat) : Nat :=
  match r.state, r.value with
  | .good, some v => if tLim + 20 < v then min 5 (warm + 1) else 0
  | _, _ => warm

/-- The downgrade of `d`'s fill from grade `g` to `g'` (R90). -/
def State.downgrade (s : State) (d : Four) (g g' : Grade) : State × List Task :=
  let m := (s.meterRec d).mass
  let t := s.modDisp d fun p =>
    { p with
      fill := p.fill.map fun f =>
        { f.recompute g' (f.snapshot.elim 0 (·.vehicle.soc)) m with downgrades := f.downgrades.map (· + 1) },
      stats := { p.stats with downgrades := satInc top16 p.stats.downgrades } }
  let t := t.commandSetpoint d
  let tAmb := ((t.disp d).fill.bind (·.snapshot)).elim 0 (·.tAmb)
  let left := ((t.disp d).fill.bind (·.ramp)).elim 0 fun r => r.left.getD 0
  let h := heatPerGram s.work.precool tAmb g'
  let t := t.modPrecool fun p =>
    { p with table := p.table.set d (some (Reservation.mk (some g') h (left * h) 0)) }
  let t := t.post .precoolGrade (.dispenser d) (detailBytes (gradeCode g) (gradeCode g'))
  (t, t.completeTasks d)

/-- The precool test of a ramp step (R89 to R91, R120 part 4). -/
def State.precoolTest (s : State) (d : Four) : State × List Task :=
  match (s.disp d).state, s.precool.table.get d with
  | .fuelling, some r =>
    match r.grade.bind fun g => (PrecoolCfg.row s.work.precool g).map fun c => (g, c.tLim) with
    | none => (s, [])
    | some (g, tLim) =>
      let warm := warmAfter tLim (s.chan (.outlet d)) r.warm
      let t := s.modPrecool fun p => { p with table := p.table.set d (some { r with warm := warm }) }
      if warm < 5 then (t, [])
      else
        match lowerGrade (s.fillNozzle d) g with
        | none => (t, [.endCause d .precoolLost])
        | some g' => t.downgrade d g g'
  | _, _ => (s, [])

/-- The ramp timer restarted for the next step (R120). -/
def State.restartRamp (s : State) (d : Four) : State :=
  if (s.disp d).state = .fuelling then s.modTimers d fun m => { m with ramp := some 1000 } else s

end Sys2Proof.Machine
end

