-- ==== Sys2Proof/Machine/Agenda.lean ====
section
/-!
DEFINITION. Station faults and shutdown (R182, R184), and the agenda of a step: the consequences that one event has in
other blocks, taken depth first, each rule's steps in its own order (Log 10).
-/

namespace Sys2Proof.Machine

/-- A cause latched (R182): in READY, with its shutdown enabled, the station goes to SHUTDOWN. -/
def State.latch (s : State) (c : FaultCause) (b : Option Four) : State × List Task :=
  let t := s.modSup fun u =>
    { u with
      latches :=
        { u.latches.set c true with
          overSet := b.elim u.latches.overSet fun b => u.latches.overSet.set b true } }
  (t, if s.sup.station = .ready ∧ SiteCfg.enabled s.work.site c = true then [.shutdown c] else [])

/-- Entry to SHUTDOWN with cause `c` (R184). -/
def State.shutdown (s : State) (c : FaultCause) : State × List Task :=
  let t := (s.modSup fun u => { u with station := .shutdown }).post .stationShutdown .station c.code
  (t, (Four.all.map fun d => .endCause d .shutdown) ++ [.compShutdown])

/-- One consequence taken, and the consequences that follow it at once. -/
def State.doTask (s : State) : Task → State × List Task
  | .endCause d c => s.endCause d c
  | .endingRest d => (s.endingRest d, [])
  | .release b d => s.release b d
  | .freeBank b => s.freeBank b
  | .serve b => s.serveWaiters b
  | .rewalk b => s.rewalkWaiters b
  | .walk d expired => s.walk d expired
  | .grant d b => s.grant d b
  | .takeGrant d b old => s.takeGrant d b old
  | .lose b => s.loseBank b
  | .choose at_ left => s.choose at_ left
  | .isolate b => s.isolateBank b
  | .switchDemand d => s.switchDemand d
  | .mismatch d => s.mismatch d
  | .latch c b => s.latch c b
  | .shutdown c => s.shutdown c
  | .compShutdown => (s.compShutdown, [])
  | .plan d => s.plan d
  | .admitHead => s.admitHead
  | .enterFuelling d g f => s.enterFuelling d g f
  | .fuelRequest d => s.fuelRequest d
  | .fuelCheckpoint d => (s.checkpoint d, [])
  | .fallback d => s.fallback d
  | .rampBank d => s.switchTests d
  | .rampPrecool d => s.precoolTest d
  | .rampRestart d => (s.restartRamp d, [])
  | .unload => (s.unload, [])

/-- The agenda taken depth first, at most `n` consequences (Log 10). -/
def State.runTasks : Nat → List Task → State → State
  | _, [], s => s
  | 0, _ :: _, s => s
  | n + 1, t :: ts, s => State.runTasks n ((s.doTask t).2 ++ ts) (s.doTask t).1

/-- The bound on the consequences of one step: more than any step has (Log 10). -/
def agendaBound : Nat := 1000

/-- Every consequence of an event taken. -/
def State.take (s : State) (ts : List Task) : State := State.runTasks agendaBound ts s

/-- A result with its consequences taken. -/
def settled (p : State × List Task) : State := p.1.take p.2

/-- An end cause handed to a dispenser, with all that follows. -/
def State.endFill (s : State) (d : Four) (c : Cause) : State := s.take [.endCause d c]

/-- An end cause handed to every dispenser, 1 to 4 (R128, Log 9). -/
def State.endAll (s : State) (c : Cause) : State := s.take (Four.all.map fun d => .endCause d c)

end Sys2Proof.Machine
end

