-- ==== Sys2Proof/Machine/LinkCommands.lean ====
section
/-!
DEFINITION. The commands of the station link (chapter 1): bytes and frames, the gap, replies sent, link supervision, the
clock, and the requests STATUS, NOTICE, TIME and LINKSET.
-/

namespace Sys2Proof.Machine

/-- The outcome of a command. -/
abbrev Result := Host.Outcome State Fault Refusal

/-! ## Bytes and frames (R1 to R4) -/

/-- The receiver hunting again, its gap timer stopped (R1). -/
def State.hunt (s : State) : State := s.modLink fun l => { l with receiver := .hunting, gap := none }

/-- FRAME_RECEIVED: a frame completes, the receiver hunts, and the frame is checked and taken (R1 to R4, R13). -/
def execFrameReceived (f : Frame) (s : State) : Result := .next (s.hunt.completeFrame f)

/-- The frame that the bytes from LENGTH to CRC spell (section 1.8). -/
def frameOf (bs : List Byte) : Frame :=
  { kind := bs.getD 2 0, tag := bs.getD 3 0, body := (bs.drop 4).take (bs.length - 6),
    crc := BitVec.ofNat 16 (fieldAt bs (bs.length - 2) 2) }

/-- The bytes inside a frame once one more has been taken (R1, R2): LENGTH above 250 discards the frame as soon as both
its bytes have arrived, and the last CRC byte completes it. -/
def State.insideByte (s : State) (bs : List Byte) : State :=
  let len := fieldAt bs 0 2
  if bs.length < 2 then s.modLink fun l => { l with receiver := .inside bs, gap := some 50 }
  else if 250 < len then s.hunt.framingError
  else if bs.length < len + 6 then s.modLink fun l => { l with receiver := .inside bs, gap := some 50 }
  else s.hunt.completeFrame (frameOf bs)

/-- LINK_BYTE_RECEIVED (R1, R2). -/
def execLinkByteReceived (b : Byte) (s : State) : Result :=
  .next
    (match s.link.receiver with
     | .hunting => if b = 0xA5 then s.modLink fun l => { l with receiver := .inside [], gap := some 50 } else s
     | .inside bs => s.insideByte (bs ++ [b]))

/-- INTER_BYTE_GAP_TIMEOUT: the partial frame is discarded and counted (R1, R16). -/
def execInterByteGapTimeout (s : State) : Result :=
  .next (if s.link.gap.isSome then s.hunt.framingError else s)

/-- Whether a reply answers a RESET that was taken (R190). -/
def Reply.grantsReset (r : Reply) : Bool := decide (r.kind = 0x85) && decide (r.result = .ok)

/-- REPLY_SENT: the buffer is emptied, or the noted frame gets its BUSY reply first (R3, R4); a RESET's reply sent lets
its reset take effect (R190). -/
def execReplySent (s : State) : Result :=
  .next
    (match s.link.buffer with
     | none => s
     | some q =>
       match q.phase with
       | .waiting => s
       | .storing => s
       | .busyReplying _ => s.modLink fun l => { l with buffer := none, note := none }
       | .replying r =>
         let t :=
           if r.grantsReset ∧ s.sup.resetAsked = .asked then s.modSup fun u => { u with resetAsked := .answered }
           else s
         match s.link.note with
         | none => t.modLink fun l => { l with buffer := none }
         | some (k, g) =>
           t.modLink fun l =>
             { l with buffer := some { q with phase := .busyReplying (t.reply k g (bareAnswer .busy)) } })

/-! ## Supervision and the clock (R11 to R14) -/

/-- The dispensers that the link action reaches: under HOLD only those in AUTHORIZED (R13). -/
def State.linkActionTasks (s : State) : List Task :=
  (Four.all.filter fun d => decide (s.work.site.linkAction = .stop) || decide ((s.disp d).state = .authorized)).map
    fun d => .endCause d .linkLost

/-- LINK_TIMER_EXPIRY (R13, R128): the timer expires where it has run out. Where a frame was taken first the timer runs
afresh and the expiry does not happen (R13, Log 3). -/
def execLinkTimerExpiry (s : State) : Result :=
  .next
    (if s.link.supervision = .watching ∧ s.link.supTimer = some 0 then
      let t := s.modLink fun l => { l with supervision := .lost, supTimer := none }
      let t := t.post .linkTimeout .station (linkActionCode s.work.site.linkAction)
      t.take t.linkActionTasks
     else s)

/-- CLOCK_TICK (R14). -/
def execClockTick (s : State) : Result := .next (s.modLink fun l => { l with clock := l.clock + 1 })

/-- Link supervision under the working timeout: OFF where it is 0, else WATCHING at the full timeout (R11, R12). -/
def State.restartSupervision (s : State) : State :=
  let n := s.work.site.linkTimeout
  s.modLink fun l =>
    if n = 0 then { l with supervision := .off, supTimer := none }
    else { l with supervision := .watching, supTimer := seconds n }

/-- LINKSET's effect (R12). -/
def State.linkset (s : State) (timeout : Nat) (action : LinkAction) : State :=
  (s.modSup fun u =>
    { u with work := { u.work with site := { u.work.site with linkTimeout := timeout, linkAction := action } } }
    ).restartSupervision

/-- LINKSET (R12). -/
def execLinkset (tag timeout action : Byte) (s : State) : Result :=
  .next (s.takeRequest 0x04 tag [timeout, action]
    (answering fun t => (t.linkset timeout.toNat (linkActionOf action.toNat), okAnswer)))

/-- TIME's effect: the clock set, and the start history ring moved by the same number (R14). -/
def State.setClock (s : State) (value : Word) : State :=
  let moved := value - s.link.clock
  (s.modLink fun l => { l with clock := value, clockSet := true }).modComp fun c =>
    { c with ring := c.ring.map (· + moved) }

/-- TIME (R14). -/
def execTime (tag : Byte) (value : Word) (s : State) : Result :=
  .next (s.takeRequest 0x03 tag (word4 value) (answering fun t => (t.setClock value, okAnswer)))

/-! ## STATUS and NOTICE (R10, R15) -/

/-- What STATUS reports (R15). -/
def State.statusReport (s : State) : StatusReport :=
  { station := s.sup.station, clock := s.link.clock, clockUnset := !s.link.clockSet,
    latches := FaultCause.all.map fun c => (s.sup.latches.get c, SiteCfg.enabled s.work.site c),
    configDefaulted := s.sup.configDefaulted, metrologyFault := s.sup.latches.metrology,
    calibrating := decide (s.meter.session ≠ .none), disps := s.disps.toList.map (·.state),
    compressor := s.comp.state, deferred := s.comp.deferred, supplyLow := s.comp.supplyLow,
    disableCause := s.comp.disableCause, logCount := s.log.ring.length, supervision := s.link.supervision,
    linkTimeout := s.work.site.linkTimeout, linkAction := s.work.site.linkAction }

/-- STATUS (R15). -/
def execStatus (tag : Byte) (s : State) : Result :=
  .next (s.takeRequest 0x01 tag [] (reading fun t => okData (.status t.statusReport)))

/-- NOTICE's effect and answer (R10). -/
def State.readNotice (s : State) : State × Answer :=
  match s.link.notices with
  | [] => (s, bareAnswer .nothing)
  | n :: rest =>
    (s.modLink fun l => { l with notices := rest, lost := false }, okData (.bytes (n.record s.link.lost)))

/-- NOTICE (R10). -/
def execNotice (tag : Byte) (s : State) : Result :=
  .next (s.takeRequest 0x02 tag [] (answering State.readNotice))

end Sys2Proof.Machine
end

