-- ==== Sys2Proof/Machine/StartUp.lean ====
section
/-!
DEFINITION. The stages of start-up (R179, R180), the check of the calibration record (R160), recovery of the log (R177)
and the reference sweep's parts (R32, R33), with the hand-overs of failed channels (R19, R20) and faulted valves (R29)
that they share with the field's own commands.
-/

namespace Sys2Proof.Machine

/-! ## Failed channels and faulted valves -/

/-- A FAILED channel handed to its consumers (R20, R25 table, R38, R66, R70, R125). -/
def State.handFailed (s : State) : Channel → State × List Task
  | .primary d => (s, if (s.disp d).state.running then [.endCause d .sensor] else [])
  | .secondary d => (s, if (s.disp d).state.running then [.endCause d .sensor] else [])
  | .outlet d => (s, if (s.disp d).state = .fuelling then [.endCause d .sensor] else [])
  | .bank b =>
    let demand : List Task :=
      match (s.bank b).state with
      | .drawing d => [.switchDemand d]
      | _ => []
    if s.comp.deliversInto b then
      let p := s.stall b 2
      (p.1, demand ++ p.2)
    else (s, demand)
  | .supply => (s.judgeSupply, [])
  | .ambient => (s, [])
  | .precoolOutlet => (s, [])

/-- A channel made FAILED with its CHANNEL_FAULT notice and handed on (R20, R32). -/
def State.failChannel (s : State) (ch : Channel) (r : ChanRec) (kind : Nat) : State :=
  let t := s.setChan ch { r with state := .failed, hold := none }
  settled ((t.post .channelFault (channelSource ch) (detailBytes kind (channelNumber ch))).handFailed ch)

/-- The failure kind in a VALVE_FAULT detail (R29). -/
def valveFaultKind : ValveState → Nat
  | .stuckOpen => 1
  | _ => 2

/-- The blocks to which a valve fault is handed (R29): the dispenser where the valve was in use (R125), the Bank Manager
for a CV (R52), and then the Station Supervisor for a valve stuck open. That order, in which R29 lists them, is the
model's reading (Log 40): a running fill whose valve sticks open ends VALVE, whatever shutdown the latch then takes. -/
def State.valveFaultTasks (s : State) (v : Valve) (was : ValveRec) (st : ValveState) : List Task :=
  (match v with
   | .bv _ d => if was.inUse && (s.disp d).state.running then [.endCause d .valve] else []
   | .dv d => if (s.disp d).state.running then [.endCause d .valve] else []
   | .cv b => [.isolate b]) ++
  (if st = .stuckOpen then [.latch .valveStuckOpen none] else [])

/-- A valve becomes faulted (R29). The fault is handed on with the use that it found, and ends that use (Log 15). -/
def State.faultValve (s : State) (v : Valve) (st : ValveState) : State :=
  let was := s.valve v
  let t := s.setValve v { was with commanded := .closed, travel := none, state := st, inUse := false }
  let t := t.post .valveFault (valveSource v) (detailBytes (valveFaultKind st) (valveNumber v))
  t.take (t.valveFaultTasks v was st)

/-! ## The reference sweep -/

/-- The channels of a converter, in channel-number order (R18, R32). -/
def sweepChannels : Converter → List Channel
  | .a => (Four.all.map fun d => [.primary d, .secondary d, .outlet d]).flatten
  | .b => (Four.all.map fun b => .bank b) ++ [.supply, .ambient, .precoolOutlet]

/-- A sweep begun with its channel part (R32). -/
def State.beginSweep (s : State) : State :=
  s.modField fun f => { f with sweep := ⟨.channels, ⟨0, []⟩, ⟨0, []⟩, none⟩ }

/-- The difference of two numbers, without sign. -/
def gap (a b : Nat) : Nat := (a - b) + (b - a)

/-- Whether the five reads of a channel pass (R32). -/
def sweepPasses : List Nat → Bool
  | [r1, low, r2, high, r3] =>
    decide (gap low 4000 ≤ 80) && decide (gap high 20000 ≤ 80) && decide (gap r1 r2 ≤ 160) &&
      decide (gap r1 r3 ≤ 160) && decide (gap r2 r3 ≤ 160)
  | _ => false

/-- A swept channel judged (R32): one already FAILED with result FAIL posts no further notice. -/
def State.judgeChannel (s : State) (ch : Channel) (reads : List Nat) : State :=
  let r := s.chan ch
  if sweepPasses reads then s.setChan ch { r with ref := .pass }
  else if r.state = .failed ∧ r.ref = .fail then settled (s.handFailed ch)
  else s.failChannel ch { r with ref := .fail } 2

/-- The valve part begun: every on/off valve commanded CLOSED, and 2.0 s waited (R33). -/
def State.beginValvePart (s : State) : State :=
  let t := (s.closeAll allValves).modField fun f => { f with sweep := { f.sweep with phase := .valves, wait := some 2000 } }
  if s.sup.station = .startUp .s4 then t.modSup fun u => { u with station := .startUp .s5 } else t

/-- A converter's place in the sweep. -/
def Sweep.conv (w : Sweep) : Converter → ConvSweep
  | .a => w.a
  | .b => w.b

/-- A converter's place replaced. -/
def Sweep.setConv (w : Sweep) (c : Converter) (p : ConvSweep) : Sweep :=
  match c with
  | .a => { w with a := p }
  | .b => { w with b := p }

/-- A converter's place replaced in the Field Interface. -/
def State.setConv (s : State) (c : Converter) (p : ConvSweep) : State :=
  s.modField fun f => { f with sweep := f.sweep.setConv c p }

/-- One step of a converter's sweep (R32): the fifth read judges the channel, and the end of converter A's list begins
the valve part. -/
def State.sweepStep (s : State) (c : Converter) (current : Nat) : State :=
  let p := s.field.sweep.conv c
  match (sweepChannels c)[p.pos]? with
  | none => s
  | some ch =>
    let reads := p.reads ++ [current]
    if reads.length < 5 then s.setConv c { p with reads := reads }
    else
      let t := (s.setConv c ⟨p.pos + 1, []⟩).judgeChannel ch reads
      if c = .a ∧ p.pos + 1 = 12 then t.beginValvePart else t

/-- One valve read in the valve part (R33); a feedback still unsettled is left as it is (Log 21). -/
def State.readValve (s : State) (v : Valve) : State :=
  let r := s.valve v
  match r.feedback.settled with
  | some .closed => s.setValve v { r with state := .ok }
  | some .opened => if r.state = .stuckOpen then s else s.faultValve v .stuckOpen
  | none => s

/-! ## Stages S1 to S3 -/

/-- Whether the calibration record's CRC agrees with its check value (R160). -/
def CalRecord.agrees (c : CalRecord) : Bool := decide (crc16 (calBytes c.factors c.audit) = c.check)

/-- The check of the calibration record (R160): a disagreement sets record damaged and latches METROLOGY_FAULT. -/
def State.checkCalibration (s : State) : State :=
  if s.meter.cal.agrees then s else (s.modMeter fun m => { m with damaged := true }).take [.latch .metrology none]

/-- The next OPEN entry recovered, or the end of S3: the marks are tested and the sweep of S4 begins (R177, R179). -/
def State.recoverNext (s : State) : State :=
  match firstOpen s.log.ring with
  | some e => s.modLog fun g => { g with recovering := some (s.recovered e) }
  | none =>
    ((s.modLog fun g => { g with recovering := none }).testMarks.modSup fun u =>
      { u with station := .startUp .s4 }).beginSweep

/-- The working values loaded at S1 (R180), the kept start ring cut to N_s (R76) and the kept reserve to E_max (R94). -/
def State.loadConfig (s : State) : State :=
  let good := decide (crc16 (Config.storeImage s.sup.store.image) = s.sup.store.crc)
  let w := if good then s.sup.store.image else factoryConfig
  let t := s.modSup fun u => { u with work := w, configDefaulted := !good }
  let t := t.modComp fun c => { c with ring := trimRing w.site.startLimit c.ring }
  t.modPrecool fun p => { p with reserve := min p.reserve w.precool.eMax }

/-- Stages S1 and S2, and the beginning of S3 (R179). -/
def State.beginStartUp (s : State) : State :=
  let t := s.loadConfig.modSup fun u => { u with station := .startUp .s2 }
  let t := t.checkCalibration.modSup fun u => { u with station := .startUp .s3 }
  t.recoverNext

/-! ## Stage S6 -/

/-- The code of a reset kind (R179 step 3). -/
def ResetKind.code : ResetKind → Nat
  | .powerOn => 1
  | .resetLine => 2
  | .station => 3

/-- The lowest latched cause with its shutdown enabled (R184). -/
def State.shutdownCause (s : State) : Option FaultCause :=
  FaultCause.all.find? fun c => s.sup.latches.get c && SiteCfg.enabled s.work.site c

/-- Stage S6 (R179). -/
def State.finishStartUp (s : State) : State :=
  let t := Four.all.foldl
    (fun t d => if (t.dispCfg d).openAtStart then t.modDisp d fun p => { p with state := .idle } else t) s
  let t := t.modSup fun u => { u with station := .startUp .s6 }
  let t := t.post .startUpDone .station
    (detailBytes t.sup.resetKind.code (bitFlags [t.sup.configDefaulted, t.sup.latches.metrology]))
  let t := t.modSup fun u =>
    { u with
      latches :=
        { u.latches with
          esd := u.latches.esd || t.faultPresent .esd, gasAlarm := u.latches.gasAlarm || t.faultPresent .gasAlarm } }
  match t.shutdownCause with
  | some c => (t.take [.shutdown c]).restartSupervision
  | none => ((t.modSup fun u => { u with station := .ready }).restartSupervision).evalStart

/-- The end of the valve part: every valve read, the sweep over, and S6 or the start conditions (R33, R61, R179). R33
names no order of the 24 feedbacks: they are read in the order of the valves' numbers, each with its notice and its
consequences before the next (Log 37). -/
def State.endSweep (s : State) : State :=
  let t := allValves.foldl (fun t v => t.readValve v) s
  let t := t.modField fun f => { f with sweep := resetSweep }
  if s.sup.station = .startUp .s5 then t.finishStartUp else t.evalStart

/-! ## Resets (section 11.5) -/

/-- The Link Controller after a reset (R1, R4, R9, R11, R14, R16). -/
def Link.afterReset (l : Link) : ResetKind → Link
  | .station =>
    { resetLink with notices := l.notices, lost := l.lost, clock := l.clock, clockSet := l.clockSet }
  | _ => resetLink

/-- The Field Interface after a reset (R22, R23, R26, R30, R31): the levels at the contacts are the outside's. -/
def Field.afterReset (f : Field) : Field :=
  { resetField with
    switches := f.switches.mapAll fun r => resetSwitch r.pin,
    valves := f.valves.mapAll fun r => resetValve r.feedback.pin, running := resetSwitch f.running.pin }

/-- The Compressor Scheduler after a reset (R76). -/
def Compressor.afterReset (c : Compressor) : ResetKind → Compressor
  | .station => { resetCompressor with ring := c.ring }
  | _ => resetCompressor

/-- The Precool Unit after a reset (R94). -/
def Precool.afterReset (p : Precool) : ResetKind → Precool
  | .station => { p with table := .fill none, waitList := [] }
  | _ => resetPrecool

/-- The Station Supervisor after a reset (R180, R190). -/
def Supervisor.afterReset (u : Supervisor) (k : ResetKind) : Supervisor :=
  { resetSupervisor with
    resetKind := k, store := u.store, work := if k = .station then u.work else factoryConfig }

/-- The controller after a reset. -/
def State.afterReset (s : State) (k : ResetKind) : State :=
  { s with
    link := s.link.afterReset k, field := s.field.afterReset, banks := resetBanks, comp := s.comp.afterReset k,
    precool := s.precool.afterReset k, receivers := .fill resetReceiver, disps := .fill resetDispenser,
    meter := resetMeter s.meter.cal, log := s.log.afterReset, sup := s.sup.afterReset k }

end Sys2Proof.Machine
end

