-- ==== Sys2Proof/Machine/Configuration.lean ====
section
/-!
DEFINITION. Reading and writing an item of the configuration (R188) with the relations its group gives (R35, R37, R77);
the effects of a write; CFGWRITE, CFGREAD, CFGSAVE and its store, TARIFF WRITE and ACTSET.
-/

namespace Sys2Proof.Machine

/-! ## Reading (R188) -/

/-- The value of an item; none for the items that entry 0 of the class table does not hold. -/
def readItem (w : WorkConfig) (group index item : Nat) : Option Int :=
  match group with
  | 1 => (siteItem item).map (·.read w.site)
  | 2 => (Four.ofNat? index).bind fun b => (bankItem item).map (·.read (w.banks.get b))
  | 3 =>
    (Four.ofNat? index).bind fun d =>
      let c := w.disps.get d
      match item with
      | 1 => some (match c.nozzle with | .hp => 1 | .mp => 2)
      | 2 => some (packCascade c.cascade)
      | _ => some (c.openAtStart.toNat : Int)
  | 4 => (precoolItem item).map (·.read w.precool)
  | 5 => (rampPair index).bind fun p => (rampItem p.1 item).map (·.read (RampTable.row w.ramp p.1 p.2))
  | 6 =>
    if index = 0 then
      match item with
      | 1 => some 1
      | 2 => some 3
      | _ => (genericItem item).map (·.read w.generic)
    else (w.classes[index - 1]?).bind fun c => (classItem item).map (·.read c)
  | _ => (w.tariffs[index]?).bind fun c => (tariffItem item).map (·.read c)

/-- CFGREAD as its owner takes it (R188): what entry 0 of the class table does not hold reads a free value (Log 8). -/
def State.readConfig (s : State) (group index item : Nat) : State × Answer :=
  match itemBad group index item with
  | some i => (s, badValue i)
  | none =>
    match readItem s.work group index item with
    | some v => (s, okData (.bytes (word4 (BitVec.ofInt 32 v))))
    | none =>
      ({ s with freeIx := s.freeIx + 1 }, okData (.bytes (word4 (Config.entryZeroReads s.freeIx))))

/-- CFGREAD (R188). -/
def execCfgread (tag group index item : Byte) (s : State) : Result :=
  .next (s.takeRequest 0x11 tag [group, index, item]
    (answering fun t => t.readConfig group.toNat index.toNat item.toNat))

/-! ## Writing (R188) -/

/-- What a write of an item, its value within its range, comes to: a bad field where it would break a relation, or the
new working configuration. -/
def writeItem {α : Type} (i : Option (Item α)) (relations : α → Bool) (a : α) (v : Int) (put : α → WorkConfig) :
    Nat ⊕ WorkConfig :=
  match i with
  | none => .inl 3
  | some x => if relations (x.write a v) then .inr (put (x.write a v)) else .inl 4

/-- No relation between the items of a group. -/
def noRelation {α : Type} (_ : α) : Bool := true

/-- A DISPENSER item written (R37, R107). -/
def writeDisp (w : WorkConfig) (d : Four) (item : Nat) (value : Word) : Nat ⊕ WorkConfig :=
  let c := w.disps.get d
  let put (c : DispCfg) : WorkConfig := { w with disps := w.disps.set d c }
  match item with
  | 1 =>
    if value = 1 then .inr (put { c with nozzle := .hp })
    else if value = 2 then .inr (put { c with nozzle := .mp })
    else .inl 4
  | 2 =>
    match unpackCascade value with
    | none => .inl 4
    | some bs => if ascending (fun b => (w.banks.get b).rank) bs then .inr (put { c with cascade := bs }) else .inl 4
  | _ => writeItem (some (boolItem (·.openAtStart) fun c v => { c with openAtStart := v })) noRelation c value.toInt put

/-- The working configuration after an item is written, its fields within their ranges, or the index of the field that
fails: a value that would break a relation of its group (R35, R37, R77). -/
def writeGroup (w : WorkConfig) (group index item : Nat) (value : Word) : Nat ⊕ WorkConfig :=
  let v := value.toInt
  match group with
  | 1 => writeItem (siteItem item) noRelation w.site v fun c => { w with site := c }
  | 2 =>
    match Four.ofNat? index with
    | none => .inl 2
    | some b => writeItem (bankItem item) bankRelations (w.banks.get b) v fun c => { w with banks := w.banks.set b c }
  | 3 =>
    match Four.ofNat? index with
    | none => .inl 2
    | some d => writeDisp w d item value
  | 4 => writeItem (precoolItem item) precoolRelations w.precool v fun c => { w with precool := c }
  | 5 =>
    match rampPair index with
    | none => .inl 2
    | some p =>
      writeItem (rampItem p.1 item) noRelation (RampTable.row w.ramp p.1 p.2) v fun c =>
        { w with ramp := setRampRow w.ramp index c }
  | 6 =>
    if index = 0 then writeItem (genericItem item) noRelation w.generic v fun c => { w with generic := c }
    else
      match w.classes[index - 1]? with
      | none => .inl 2
      | some e => writeItem (classItem item) noRelation e v fun c => { w with classes := w.classes.set (index - 1) c }
  | _ =>
    match w.tariffs[index]? with
    | none => .inl 2
    | some e => writeItem (tariffItem item) noRelation e v fun c => { w with tariffs := w.tariffs.set index c }

/-- The working configuration after an item is written, or the index of the field that fails (R188): one out of its
range, else the value that would break a relation. -/
def writeConfig (w : WorkConfig) (group index item : Nat) (value : Word) : Nat ⊕ WorkConfig :=
  match firstBad (writeChecks group index item value) with
  | some i => .inl i
  | none => writeGroup w group index item value

/-- A bank put into its place by station rank. -/
def insertByRank (rank : Four → Nat) (b : Four) : List Four → List Four
  | [] => [b]
  | c :: rest => if rank b < rank c then b :: c :: rest else c :: insertByRank rank b rest

/-- A cascade order re-sorted into ascending station rank (R36). -/
def sortByRank (rank : Four → Nat) : List Four → List Four
  | [] => []
  | b :: rest => insertByRank rank b (sortByRank rank rest)

/-- The working configuration after `b` and `c` have changed ranks (R36). -/
def swapRanks (w : WorkConfig) (b c : Four) : WorkConfig :=
  let rb := (w.banks.get b).rank
  let rc := (w.banks.get c).rank
  let banks := (w.banks.modify b fun k => { k with rank := rc }).modify c fun k => { k with rank := rb }
  { w with
    banks := banks,
    disps := w.disps.map fun p => { p with cascade := sortByRank (fun x => (banks.get x).rank) p.cascade } }

/-- Whether a bank takes a CFGWRITE: READY or ISOLATED (R35, R36). -/
def State.bankTakesWrite (s : State) (b : Four) : Bool :=
  decide ((s.bank b).state = .ready) || decide ((s.bank b).state = .isolated)

/-- A station rank write (R36). -/
def State.writeRank (s : State) (b : Four) (r : Nat) : State × Answer :=
  if (s.bankCfg b).rank = r then (s, okAnswer)
  else
    match Four.all.find? fun c => decide ((s.bankCfg c).rank = r) with
    | none => (s, okAnswer)
    | some c =>
      if !s.bankTakesWrite c then (s, notNow .state)
      else if s.anyFilling then (s, notNow .filling)
      else (s.modSup fun u => { u with work := swapRanks u.work b c }, okAnswer)

/-- The fault cause whose shutdown enable a SITE item is (R188). -/
def enableCause : Nat → Option FaultCause
  | 19 => some .gasAlarm
  | 20 => some .valveStuckOpen
  | 21 => some .bankOverpressure
  | 22 => some .metrology
  | 23 => some .compressor
  | _ => none

/-- An enable set for a latched cause while the station is READY takes it into SHUTDOWN at once (R185). -/
def State.enableChanged (s : State) (c : FaultCause) : State :=
  if s.sup.station = .ready ∧ s.sup.latches.get c = true ∧ SiteCfg.enabled s.work.site c = true then
    s.take [.shutdown c]
  else s

/-- N_s taken at once (R62): the ring is cut; a running deferral timer is stopped and the start conditions are evaluated
where the ring now allows a start, and it is recomputed from the ring where it does not. -/
def State.startLimitChanged (s : State) : State :=
  let t := s.modComp fun c => { c with ring := trimRing s.work.site.startLimit c.ring }
  if t.comp.deferral.isNone then t
  else if t.ringAllows then (t.modComp fun c => { c with deferral := none }).evalStart
  else t.modComp fun c => { c with deferral := some t.deferralTime }

/-- What a written item does at once: the link items (R12), N_s (R62), the enables (R185), E_max (R77). -/
def State.afterWrite (s : State) (group item : Nat) : State :=
  if group = 1 then
    if item = 1 ∨ item = 2 then s.restartSupervision
    else if item = 7 then s.startLimitChanged
    else (enableCause item).elim s s.enableChanged
  else if group = 4 then s.modPrecool fun p => { p with reserve := min p.reserve s.work.precool.eMax }
  else s

/-- The state test of a CFGWRITE (R188): the bank or dispenser that it configures. -/
def State.takesWrite (s : State) (group index : Nat) : Bool :=
  match group, Four.ofNat? index with
  | 2, some b => s.bankTakesWrite b
  | 3, some d => decide ((s.disp d).state = .closed) || decide ((s.disp d).state = .idle)
  | _, _ => true

/-- CFGWRITE as its owner takes it (R188). Its fields lie within their ranges, which the Link Controller has checked
(R3); the relations are judged here, as the other items then stand (Log 41). -/
def State.writeConfigItem (s : State) (group index item : Nat) (value : Word) : State × Answer :=
  match writeConfig s.work group index item value with
  | .inl i => (s, badValue i)
  | .inr w =>
    if !s.takesWrite group index then (s, notNow .state)
    else
      match decide (group = 2 ∧ item = 1), Four.ofNat? index with
      | true, some b => s.writeRank b value.toNat
      | _, _ => ((s.modSup fun u => { u with work := w }).afterWrite group item, okAnswer)

/-- CFGWRITE (R188). -/
def execCfgwrite (tag group index item : Byte) (value : Word) (s : State) : Result :=
  .next (s.takeRequest 0x10 tag ([group, index, item] ++ word4 value)
    (answering fun t => t.writeConfigItem group.toNat index.toNat item.toNat value))

/-! ## TARIFF WRITE, ACTSET (R153, R185) -/

/-- TARIFF WRITE's effect (R153). -/
def State.writeTariff (s : State) (code hp mp : Nat) : State :=
  s.modSup fun u => { u with work := { u.work with tariffs := u.work.tariffs.set code ⟨hp, mp⟩ } }

/-- TARIFF WRITE (R153). -/
def execTariffWrite (tag code : Byte) (hp mp : Word) (s : State) : Result :=
  .next (s.takeRequest 0x13 tag ([code] ++ word4 hp ++ word4 mp)
    (answering fun t => (t.writeTariff code.toNat hp.toNat mp.toNat, okAnswer)))

/-- The fault cause of a code (R181). -/
def faultCauseOf (n : Nat) : Option FaultCause := FaultCause.all.find? fun c => decide (c.code = n)

/-- The shutdown enable of a cause set; that of ESD is always 1 (R181). -/
def setEnable (c : SiteCfg) (k : FaultCause) (v : Bool) : SiteCfg :=
  match k with
  | .esd => c
  | .gasAlarm => { c with enGas := v }
  | .valveStuckOpen => { c with enValve := v }
  | .bankOverpressure => { c with enOver := v }
  | .metrology => { c with enMetro := v }
  | .compressor => { c with enComp := v }

/-- ACTSET's effect (R185, R186). -/
def State.setAction (s : State) (k : FaultCause) (v : Bool) : State :=
  (s.modSup fun u => { u with work := { u.work with site := setEnable u.work.site k v } }).enableChanged k

/-- ACTSET (R185). -/
def execActset (tag cause enable : Byte) (s : State) : Result :=
  .next (s.takeRequest 0x07 tag [cause, enable]
    (answering fun t =>
      match faultCauseOf cause.toNat with
      | some k => (t.setAction k (decide (enable = 1)), okAnswer)
      | none => (t, badValue 1)))

/-! ## CFGSAVE (R189) -/

/-- CFGSAVE: the store begins, and the reply waits for it (R189). -/
def execCfgsave (tag : Byte) (s : State) : Result :=
  .next (s.takeRequest 0x12 tag [] fun t => (t.modSup fun u => { u with saving := some u.work }, none))

/-- CFGSAVE_STORE_COMPLETE: the new image stands with its CRC, CONFIG_DEFAULTED is cleared and OK is sent (R189). -/
def execCfgsaveStoreComplete (s : State) : Result :=
  .next
    (match s.sup.saving with
     | none => s
     | some w =>
       (s.modSup fun u =>
         { u with store := ⟨w, crc16 (Config.storeImage w)⟩, saving := none, configDefaulted := false }
         ).sendReply okAnswer)

end Sys2Proof.Machine
end

