-- ==== Sys2Proof/Machine/FieldCommands.lean ====
section
/-!
DEFINITION. The commands of the field interface (chapter 2): samples and hold times, switches and feedbacks, valve
travel, the reference sweep and SELFTEST, with what the owners of samples and switch events do with them.
-/

namespace Sys2Proof.Machine

/-! ## Samples (R19) -/

/-- The channel record after a sample (R19). -/
def ChanRec.sampled (r : ChanRec) (ch : Channel) (current : Nat) : ChanRec :=
  if inPhysicalRange current then
    { r with value := some (convert ch current), age := 0, state := .good, hold := none }
  else if r.state = .good then { r with state := .invalid, hold := some (holdTime ch) }
  else r

/-- The OVERSHOOT test of a sample `p` at the setpoint `pSet` in force (R121 test 3). -/
def Dispenser.overshootTest (q : Dispenser) (p pSet : Nat) : Dispenser :=
  if q.overshoot then
    if p < pSet + 2500 then { q with overshoot := false, timers := { q.timers with overshoot := none } } else q
  else if pSet + 5000 < p then
    { q with overshoot := true, timers := { q.timers with overshoot := some 30000 } }
  else q

/-- The end cause that a primary sample gives a running dispenser: OVERPRESSURE, then COMPLETE in FUELLING (R121), then
SENSOR for a FAILED channel (R125). -/
def State.sampleCause (s : State) (d : Four) : Option Cause :=
  if (s.higherPressure d).elim false fun p => decide (overpressureThreshold (s.fillNozzle d) < p) then
    some .overpressure
  else if (s.disp d).state = .fuelling ∧ s.atRampTarget d = true then some .complete
  else if (s.chan (.primary d)).state = .failed then some .sensor
  else none

/-- A sample appended to the leak-check ring, which holds the last 64 (R115). -/
def pushLeak (ring : List Nat) (p : Nat) : List Nat := (ring ++ [p]).drop (ring.length + 1 - 64)

/-- What a primary sample does in a dispenser whose fill it does not end: OVERSHOOT in FUELLING, the ring in LEAK_CHECK
(R115, R121). -/
def State.goodPrimary (s : State) (d : Four) : State :=
  match (s.chan (.primary d)).state, s.pDisp d with
  | .good, some p =>
    match (s.disp d).state with
    | .fuelling =>
      match (s.disp d).fill.bind (·.ramp) with
      | some r => s.modDisp d fun q => q.overshootTest p r.setpoint
      | none => s
    | .leakCheck => s.modDisp d fun q => { q with leakRing := pushLeak q.leakRing p }
    | _ => s
  | _, _ => s

/-- A primary sample as the Dispenser Controller takes it (R115, R121, R125). A sample that ends the fill is left out of
the leak ring: the tests come before the append (Log 16). -/
def State.takePrimary (s : State) (d : Four) : State :=
  if (s.disp d).state.running then
    match s.sampleCause d with
    | some c => s.endFill d c
    | none => s.goodPrimary d
  else s

/-- The dual pressure check at a primary sample (R23): the condition set or cleared is handed to the dispenser, where set
it ends a running fill with cause SENSOR (R125). -/
def State.dualCheck (s : State) (d : Four) : State :=
  let p := s.chan (.primary d)
  let q := s.chan (.secondary d)
  match p.state, q.state, p.pressure, q.pressure with
  | .good, .good, some a, some b =>
    let n := if 1500 < gap a b then min 10 (s.field.disagreeCount.get d + 1) else 0
    let was := s.field.disagree.get d
    let now := if n = 10 then true else if n = 0 then false else was
    let t := s.modField fun f =>
      { f with disagreeCount := f.disagreeCount.set d n, disagree := f.disagree.set d now }
    if now && !was && (s.disp d).state.running then t.endFill d .sensor else t
  | _, _, _, _ => s

/-- A bank sample as the Compressor Scheduler takes it (R61, R65, R71). -/
def State.compressorSample (s : State) (b : Four) : State :=
  if s.comp.deliversInto b then
    match s.pBank b, s.refillEntry b with
    | some p, some e =>
      if overpressured (s.bankCfg b).rated p then
        let t := (s.endDelivery b).modComp (·.dropEntry b)
        (t.post .refillFailed (.bank b) 3).take [.isolate b, .latch .bankOverpressure (some b), .unload]
      else if s.comp.state = .running ∧ e.target ≤ p then
        let t := s.endDelivery b
        ((t.refillEntry b).elim t t.finishEntry).take [.choose .switching []]
      else s
    | _, _ => s
  else if (s.refillEntry b).isSome then s.evalStart
  else s

/-- A sample handed to the channel's consumers (R18, R19): a channel that stays FAILED is handed as FAILED. -/
def State.handSample (s : State) : Channel → State
  | .primary d => (s.takePrimary d).dualCheck d
  | .secondary d => if (s.chan (.secondary d)).state = .failed then settled (s.handFailed (.secondary d)) else s
  | .outlet d => if (s.chan (.outlet d)).state = .failed then settled (s.handFailed (.outlet d)) else s
  | .bank b =>
    let r := s.chan (.bank b)
    let t :=
      match r.state, r.pressure with
      | .good, some p => if s.s1Ended then s.lowTest b p else s
      | _, _ => s
    t.compressorSample b
  | .supply => s.judgeSupply
  | .ambient => s
  | .precoolOutlet => s

/-- ANALOG_SAMPLE (R18, R19): a channel whose reference result is FAIL takes no sample. -/
def execAnalogSample (ch : Channel) (current : Nat) (s : State) : Result :=
  .next
    (if (s.chan ch).ref = .fail then s else (s.setChan ch ((s.chan ch).sampled ch current)).handSample ch)

/-- CHANNEL_HOLD_EXPIRY (R20). -/
def execChannelHoldExpiry (ch : Channel) (s : State) : Result :=
  .next
    (if (s.chan ch).hold.isSome ∧ (s.chan ch).state = .invalid then s.failChannel ch (s.chan ch) 1 else s)

/-! ## Switches (R25, R26) -/

/-- A debounced input after its contact changes level (R25). -/
def SwitchRec.change (r : SwitchRec) (l : Level) : SwitchRec :=
  if r.pin = l then r
  else if r.settled = some l then { r with pin := l, timer := none }
  else { r with pin := l, candidate := l, timer := some 50 }

/-- A debounced input after its timer has expired: the candidate settles (R25). -/
def SwitchRec.settle (r : SwitchRec) : SwitchRec := { r with settled := some r.candidate, timer := none }

/-- SWITCH_LEVEL_CHANGE (R25, R27, R31). -/
def execSwitchLevelChange (i : Input) (l : Level) (s : State) : Result :=
  .next
    (match i with
     | .switch w => s.setSwitch w ((s.switch w).change l)
     | .feedback v => s.setValve v { s.valve v with feedback := (s.valve v).feedback.change l }
     | .running => s.modField fun f => { f with running := f.running.change l })

/-- The fill record created at the entry to CONNECTING (R113). -/
def State.newFill (s : State) (d : Four) : Fill :=
  { nozzle := (s.dispCfg d).nozzle, startTime := s.link.clock, startUnset := !s.link.clockSet, currentBank := none,
    usage := [], p0 := none, snapshot := none, least := none, ramp := none, admitted := none, downgrades := none,
    fallback := false, cause := none }

/-- Whether the sensor tests of the entry to CONNECTING fail (R113 step 4). -/
def State.sensorsFail (s : State) (d : Four) : Bool :=
  decide ((s.chan (.primary d)).state = .failed) || decide ((s.chan (.secondary d)).state = .failed) ||
    s.field.disagree.get d

/-- Entry to CONNECTING (R113, R149). -/
def State.enterConnecting (s : State) (d : Four) : State :=
  let fill := s.newFill d
  let t := s.modDisp d fun p =>
    { p with state := .connecting .bank, fill := some fill, timers := { p.timers with auth := none } }
  let t := t.modMeterRec d fun m =>
    { m with pulses := 0, mass := 0, flow := List.replicate 10 0, final := none }
  let t := t.checkpoint d
  if s.sensorsFail d then t.endFill d .sensor else t.take [.walk d none]

/-- START, the settled press of the START button (R112). -/
def State.pressStart (s : State) (d : Four) : State :=
  if (s.disp d).state = .authorized ∧ (s.switch (.holder d)).settled = some .opened ∧ s.sweepActive = false then
    s.enterConnecting d
  else s

/-- NOZZLE_IN (R127, R131). -/
def State.nozzleIn (s : State) (d : Four) : State :=
  match (s.disp d).state with
  | .ended => s.modDisp d (·.toService)
  | _ => s.endFill d .nozzleIn

/-- SEAL_CHANGE, and CAL_ABANDONED where the seal settles to SEALED in an OPEN session (R161). -/
def State.sealChange (s : State) (l : Level) : State :=
  let t := s.post .sealChange .station (match l with | .closed => 1 | .opened => 2)
  match l, s.meter.session with
  | .closed, .opened staged =>
    (t.modMeter fun m => { m with session := .none }).post .calAbandoned .station
      (if staged = s.meter.cal.factors then 0 else 1)
  | _, _ => t

/-- The event of a settled change, given to the owner of the input (R25, R127, R161, R183). -/
def State.switchEvent (s : State) (w : Switch) (l : Level) : State :=
  match w, l with
  | .holder d, .closed => s.nozzleIn d
  | .holder _, .opened => s
  | .startButton d, .closed => s.pressStart d
  | .startButton _, .opened => s
  | .stopButton d, .closed => s.endFill d .stopButton
  | .stopButton _, .opened => s
  | .esd, .opened => s.take [.latch .esd none]
  | .esd, .closed => s
  | .gasAlarm, .opened => s.take [.latch .gasAlarm none]
  | .gasAlarm, .closed => s
  | .sealIn, l => s.sealChange l

/-- Whether all fifteen switch inputs have settled (R26). -/
def Switches.allSettled (w : Switches) : Bool := w.toList.all (·.settled.isSome)

/-- DEBOUNCE_EXPIRY: the candidate settles and its event follows; the initial settling gives no event, and the last of
the fifteen begins stage S1 (R25, R26, R179). -/
def execDebounceExpiry (w : Switch) (s : State) : Result :=
  .next
    (let r := s.switch w
     if r.timer.isSome then
       let t := s.setSwitch w r.settle
       if r.settled.isSome then t.switchEvent w r.candidate
       else if t.sup.station = .startUp .s1 ∧ t.field.switches.allSettled = true then t.beginStartUp
       else t
     else s)

/-! ## Valves and the motor (R27 to R30, R72) -/

/-- The valve state of a feedback or a travel that ends at the wrong position (R28). -/
def stuckAt : Level → ValveState
  | .opened => .stuckOpen
  | .closed => .stuckClosed

/-- The other position. -/
def otherLevel : Level → Level
  | .opened => .closed
  | .closed => .opened

/-- VALVE_FEEDBACK_SETTLED: an arrival stops the travel timer, and one at CLOSED ends the valve's use (R125); the initial settling OPEN starts it (R30); a change away
from the commanded state, no travel running, faults the valve (R27, R28). -/
def execValveFeedbackSettled (v : Valve) (s : State) : Result :=
  .next
    (let r := s.valve v
     if r.feedback.timer.isSome then
       let l := r.feedback.candidate
       let r' := { r with feedback := r.feedback.settle }
       if r.state ≠ .ok then s.setValve v r'
       else if l = r.commanded then s.setValve v { r' with travel := none, inUse := r.inUse && decide (l = .opened) }
       else if r.travel.isSome then s.setValve v r'
       else if r.feedback.settled = none then s.setValve v { r' with travel := some 2000 }
       else (s.setValve v r').faultValve v (stuckAt l)
     else s)

/-- VALVE_TRAVEL_EXPIRY (R28). -/
def execValveTravelExpiry (v : Valve) (s : State) : Result :=
  .next
    (if (s.valve v).state = .ok ∧ (s.valve v).travel.isSome then
      s.faultValve v (stuckAt (otherLevel (s.valve v).commanded))
     else s)

/-- COMPRESSOR_FEEDBACK_SETTLED (R72). -/
def execCompressorFeedbackSettled (s : State) : Result :=
  .next
    (if s.field.running.timer.isSome then
      (s.modField fun f => { f with running := f.running.settle }).compareFeedback
     else s)

/-! ## The sweep (R32 to R34) -/

/-- REFERENCE_SWEEP_STEP (R32). -/
def execReferenceSweepStep (c : Converter) (current : Nat) (s : State) : Result :=
  .next (if s.field.sweep.phase = .channels then s.sweepStep c current else s)

/-- SWEEP_VALVE_WAIT_EXPIRY (R33, R179). -/
def execSweepValveWaitExpiry (s : State) : Result :=
  .next (if s.field.sweep.phase = .valves ∧ s.field.sweep.wait.isSome then s.endSweep else s)

/-- SELFTEST as its owner takes it (R34); a sweep already running is answered first (Log 17). -/
def State.selftest (s : State) : State × Answer :=
  if s.sweepActive then (s, notNow .state)
  else if s.anyFilling then (s, notNow .filling)
  else
    match s.comp.state with
    | .idle => (s.beginSweep, okAnswer)
    | .rest => (s.beginSweep, okAnswer)
    | .disabled => (s.beginSweep, okAnswer)
    | _ => (s, notNow .compressor)

/-- SELFTEST (R34). -/
def execSelftest (tag : Byte) (s : State) : Result :=
  .next (s.takeRequest 0x08 tag [] (answering State.selftest))

end Sys2Proof.Machine
end

