-- ==== Sys2Proof/Machine/BankCommands.lean ====
section
/-!
DEFINITION. The commands of the Bank Manager and the Compressor Scheduler (chapters 3 and 4): ISOLATE, RESTORE,
READBANK, REFILL, COMPRESSOR ON and OFF, and the expiries of their timers.
-/

namespace Sys2Proof.Machine

/-! ## Bank requests -/

/-- ISOLATE (R49). -/
def execIsolate (tag bank : Byte) (s : State) : Result :=
  .next (s.takeRequest 0x31 tag [bank] (ownerOf bank fun b t => (t.take [.isolate b], okAnswer)))

/-- RESTORE's effect (R51): no BANK_LOW notice goes with the demand. -/
def State.restoreBank (s : State) (b : Four) : State :=
  if (s.bank b).state = .isolated then
    let t := (s.modBank b fun k => { k with state := .ready, refillFailed := false }).evalStart
    if (s.bank b).low ∧ t.refillEntry b = none then t.autoDemand b else t
  else s

/-- RESTORE (R51). -/
def execRestore (tag bank : Byte) (s : State) : Result :=
  .next (s.takeRequest 0x32 tag [bank] (ownerOf bank fun b t => (t.restoreBank b, okAnswer)))

/-- A timer's remaining time in whole seconds; a time between two whole seconds is rounded down (R56 and R93 give the
seconds of a wait and no rounding, and for a window's next check R56 names no unit: Log 34). -/
def secondsLeft (t : Timer) : Nat := t.getD 0 / 1000

/-- What READBANK reports (R56, R75). -/
def State.bankReport (s : State) (b : Four) : BankReport :=
  let k := s.bank b
  let r := s.chan (.bank b)
  { config := s.bankCfg b, value := r.value, chan := r.state, age := r.age, state := k.state, low := k.low,
    isolatePending := k.isolatePending, refillFailed := k.refillFailed,
    waiters := k.waiters.map fun d => (d, secondsLeft (s.banks.wait.get d)),
    window := k.window.map fun w => ⟨w.grantTime, w.pStart, secondsLeft w.check⟩, entry := s.refillEntry b,
    delivering := decide (s.comp.delivery = some b), totals := s.comp.totals.get b }

/-- READBANK (R56). -/
def execReadbank (tag bank : Byte) (s : State) : Result :=
  .next (s.takeRequest 0x35 tag [bank] (ownerOf bank fun b t => (t, okData (.bank (t.bankReport b)))))

/-! ## Bank timers -/

/-- BANK_WAIT_EXPIRY (R48): where the wait has run out, the dispenser leaves its list and is walked again, that bank
passed over and no busy bank noted. Where the release was taken first the timer has stopped, and one that the re-walk has
started on another list runs afresh: the expiry does not happen (R48, Log 3). -/
def execBankWaitExpiry (d : Four) (s : State) : Result :=
  .next
    (match s.waitingOn d, s.banks.wait.get d with
     | some b, some 0 => (s.leaveWaitLists d).take [.walk d (some b)]
     | _, _ => s)

/-- DRAW_WINDOW_CHECK_EXPIRY (R55, R158, R159). -/
def execDrawWindowCheckExpiry (b : Four) (s : State) : Result :=
  .next
    (match (s.bank b).window with
     | none => s
     | some w =>
       if w.check.isSome then
         let n := s.windowFailures b w
         (s.modBank b fun k => { k with window := some { w with check := some 10000, failures := n } }).take
           (mismatchTasks w n)
       else s)

/-! ## Compressor requests -/

/-- REFILL's effect on the queue (R59). The start conditions are evaluated at every REFILL that is taken, also at one of a
queued bank that raises no priority, which R61's list of events leaves out (Log 35). -/
def State.queueRefill (s : State) (b : Four) (priority : Nat) : State :=
  let t :=
    match s.refillEntry b with
    | none =>
      s.modComp fun c =>
        { c with
          queue := c.queue ++
            [RefillEntry.mk b priority (s.bankCfg b).refillTarget .station s.link.clock 0 none] }
    | some _ =>
      s.modComp (·.modEntry b fun e => { e with priority := max e.priority priority, origin := .station })
  (t.modBank b fun k => { k with refillFailed := false }).evalStart

/-- REFILL as its owner takes it (R59). -/
def State.takeRefill (s : State) (b : Four) (priority : Nat) : State × Answer :=
  if (s.bank b).state = .isolated then (s, notNow .isolated) else (s.queueRefill b priority, okAnswer)

/-- REFILL (R59). -/
def execRefill (tag bank priority : Byte) (s : State) : Result :=
  .next (s.takeRequest 0x30 tag [bank, priority] (ownerOf bank fun b t => t.takeRefill b priority.toNat))

/-- COMPRESSOR ON as its owner takes it (R73). -/
def State.compressorOn (s : State) : State × Answer :=
  if s.sup.station = .shutdown then (s, notNow .state)
  else
    match s.comp.state with
    | .disabled => (s.returnToService, okAnswer)
    | .fault => (s.returnToService, okAnswer)
    | _ => (s.modComp fun c => { c with disablePending := none }, okAnswer)

/-- COMPRESSOR ON (R73). -/
def execCompressorOn (tag : Byte) (s : State) : Result :=
  .next (s.takeRequest 0x33 tag [] (answering State.compressorOn))

/-- COMPRESSOR OFF's effect (R73). -/
def State.compressorOff (s : State) : State :=
  let mark (c : Compressor) : Compressor := { c with disablePending := some .station }
  match s.comp.state with
  | .idle => s.disableNow .station
  | .rest => s.disableNow .station
  | .unloading => s.modComp mark
  | .disabled => s.modComp fun c => { c with disableCause := some .station }
  | .fault => s
  | _ => (s.modComp mark).enterUnloading

/-- COMPRESSOR OFF (R73). -/
def execCompressorOff (tag : Byte) (s : State) : Result :=
  .next (s.takeRequest 0x34 tag [] (answering fun t => (t.compressorOff, okAnswer)))

/-! ## Compressor timers -/

/-- DEFERRAL_TIMER_EXPIRY: the start conditions are evaluated again (R61). -/
def execDeferralTimerExpiry (s : State) : Result :=
  .next
    (if s.comp.deferral.isSome then (s.modComp fun c => { c with deferral := none }).evalStart else s)

/-- SPIN_UP_EXPIRY (R63, R64). -/
def execSpinUpExpiry (s : State) : Result :=
  .next
    (if s.comp.state = .starting ∧ s.comp.timer.isSome then
      (s.modComp fun c => { c with timer := none }).take [.choose .spinUp []]
     else s)

/-- Whether the delivery bank has risen by 500 kPa or more since its rise reference (R66). -/
def State.hasRisen (s : State) (b : Four) : Bool :=
  match s.pBank b, (s.refillEntry b).bind (·.rise) with
  | some p, some r => decide (r + 500 ≤ p)
  | _, _ => false

/-- PROGRESS_TIMER_EXPIRY (R66). -/
def execProgressTimerExpiry (s : State) : Result :=
  .next
    (match s.comp.state, s.comp.delivery, s.comp.timer with
     | .running, some b, some _ =>
       if s.hasRisen b then
         s.modComp fun c =>
           let c1 := c.modEntry b fun e => { e with rise := s.pBank b }
           { c1 with timer := some 120000 }
       else settled (s.stall b 1)
     | _, _, _ => s)

/-- SWITCH_TIMER_EXPIRY (R64, R68): the timer expires where it has run out. Where a loss of the new bank was taken first,
its CV's travel expiry among them, the choice has started the switch again from its beginning and the expiry does not
happen (R67, Log 3). -/
def execSwitchTimerExpiry (s : State) : Result :=
  .next
    (match s.comp.state, s.comp.delivery, s.comp.timer with
     | .switching, some b, some 0 => s.beginSpell b
     | _, _, _ => s)

/-- RUN_DOWN_EXPIRY (R69): the run output goes off; DISABLED where a disable is pending, else REST. -/
def execRunDownExpiry (s : State) : Result :=
  .next
    (if s.comp.state = .unloading ∧ s.comp.timer.isSome then
      (s.modComp fun c =>
        match c.disablePending with
        | some p =>
          { c with
            state := .disabled, disableCause := some p, disablePending := none, timer := none, sinceOff := 0 }
        | none => { c with state := .rest, timer := some 30000, sinceOff := 0 }).compareFeedback
     else s)

/-- REST_TIMER_EXPIRY (R61, R69). -/
def execRestTimerExpiry (s : State) : Result :=
  .next
    (if s.comp.state = .rest ∧ s.comp.timer.isSome then
      (s.modComp fun c => { c with state := .idle, timer := none }).evalStart
     else s)

/-- MISMATCH_TIMER_EXPIRY (R72). -/
def execMismatchTimerExpiry (s : State) : Result :=
  .next (if s.comp.mismatch.isSome then settled s.compFault else s)

end Sys2Proof.Machine
end

