-- ==== Sys2Proof/Machine/PrecoolCommands.lean ====
section
/-!
DEFINITION. The commands of the Precool Unit and of the Vehicle Report Receivers (chapters 5 and 6): the thermal update,
the precool wait, READPRECOOL, vehicle report frames and their freshness.
-/

namespace Sys2Proof.Machine

/-! ## The thermal update (R78, R79, R86) -/

/-- The balance E + n × Q − L − C, worked with its sign (R78). -/
def Precool.balance (p : Precool) (c : PrecoolCfg) : Int :=
  (p.reserve : Int) + (p.stage1.toNat + p.stage2.toNat) * c.stagePower - c.loss - p.charge

/-- The reserve balanced and clamped, the low mark kept with it and PRECOOL_LOW posted at an exhaustion (R78). -/
def State.balanceReserve (s : State) : State :=
  let c := s.work.precool
  let r := s.precool.balance c
  let present := (s.precool.table.toList.filter (·.isSome)).length
  let t := s.modPrecool fun p =>
    let e := (min r c.eMax).toNat
    { p with reserve := e, charge := 0, lowMark := if r ≤ 0 then true else if 0 < e then false else p.lowMark }
  if r ≤ 0 ∧ s.precool.lowMark = false then t.post .precoolLow .precool present else t

/-- The stage control (R79). -/
def Precool.controlStages (p : Precool) (eMax : Nat) : Precool :=
  { p with
    stage1 := if p.reserve * 100 < eMax * 95 then true else if p.reserve = eMax then false else p.stage1,
    stage2 :=
      if p.reserve * 100 < eMax * 70 then true else if eMax * 85 ≤ p.reserve * 100 then false else p.stage2 }

/-- THERMAL_UPDATE: the balance, the stage control, then the wait list head (R78, R79, R86). -/
def execThermalUpdate (s : State) : Result :=
  .next
    ((s.balanceReserve.modPrecool fun p =>
      { p.controlStages s.work.precool.eMax with thermal := some 1000 }).take [.admitHead])

/-- PRECOOL_WAIT_EXPIRY (R87). -/
def execPrecoolWaitExpiry (d : Four) (s : State) : Result :=
  .next
    (if s.precool.waitList.any fun w => decide (w.request.disp = d) && w.timer.isSome then
      (s.leavePrecoolList d).endFill d .precoolWait
     else s)

/-- What READPRECOOL reports (R93). -/
def State.precoolReport (s : State) : PrecoolReport :=
  let c := s.work.precool
  let p := s.precool
  let r := s.chan .precoolOutlet
  { reserve := p.reserve, eMax := c.eMax, charge := p.charge, lowMark := p.lowMark, stage1 := p.stage1,
    stage2 := p.stage2, stagePower := c.stagePower, loss := c.loss, outlet := r.value, outletState := r.state,
    outletAge := r.age, grades := [c.a, c.b, c.c], cp := c.cp, table := p.table.toList,
    reservedTotal := (p.table.toList.map fun x => x.elim 0 (·.reserved)).sum,
    waiting := p.waitList.map fun w => (w.request.disp, secondsLeft w.timer) }

/-- READPRECOOL (R93). -/
def execReadprecool (tag : Byte) (s : State) : Result :=
  .next (s.takeRequest 0x36 tag [] (reading fun t => okData (.precool t.precoolReport)))

/-! ## Vehicle reports (R98 to R105) -/

/-- The end cause of a report's first two tests: ABORT, then a tank temperature of 850 or more (R102, R103). -/
def Report.firstTests (r : Report) : Option Cause :=
  if r.command = .abort then some .vehicleAbort else if 850 ≤ r.tRep then some .tankHot else none

/-- Whether the state of charge that a report gives has reached the fill's SOC limit (R103 test 3, R148). -/
def State.socReached (s : State) (d : Four) (r : Report) : Bool :=
  ((s.disp d).fill.bind (·.snapshot)).elim false fun sn =>
    decide (sn.vehicle.soc ≤ socReported (s.fillNozzle d) r)

/-- The disagreement count after a report (R103 test 4). -/
def State.disagreeAfter (s : State) (d : Four) (r : Report) : Nat :=
  let n := (s.receiver d).disagree
  match (s.chan (.primary d)).state, s.pDisp d with
  | .good, some p => if 5000 < gap r.pRep p then min 3 (n + 1) else 0
  | _, _ => n

/-- The last test of a report: HALT sets VEHICLE_HALT, RUN clears it (R103 test 5). -/
def State.haltTest (s : State) (d : Four) (r : Report) : State :=
  s.modDisp d fun p =>
    match r.command with
    | .halt => p.setHalt
    | _ => p.clearHalt

/-- A valid report handed to a WATCHING receiver's dispenser (R103). -/
def State.watchReport (s : State) (d : Four) (r : Report) : State :=
  match r.firstTests with
  | some c => s.endFill d c
  | none =>
    if s.socReached d r then s.endFill d .socReached
    else
      let n := s.disagreeAfter d r
      let t := s.modReceiver d fun v => { v with disagree := n }
      if n = 3 then t.take [.fallback d] else t.haltTest d r

/-- A valid report handed on as the watch state requires (R98, R102). -/
def State.handReport (s : State) (d : Four) (r : Report) : State :=
  match (s.receiver d).watch with
  | .idle => s
  | .pending => r.firstTests.elim s fun c => s.endFill d c
  | .watching => s.watchReport d r

/-- VEHICLE_REPORT_FRAME (R98, R99). -/
def execVehicleReportFrame (d : Four) (bytes : List Byte) (s : State) : Result :=
  .next
    (match judgeReport bytes with
     | .checkFails => s.modReceiver d fun v => { v with checkFailures := satInc top16 v.checkFailures }
     | .outOfRange => s.modReceiver d fun v => { v with rangeFailures := satInc top16 v.rangeFailures }
     | .valid r =>
       (s.modReceiver d fun v =>
         { v with last := some r, age := 0, fresh := some 2000, valid := satInc top16 v.valid }).handReport d r)

/-- FRESHNESS_TIMER_EXPIRY: while the timer runs it expires once the report's age has reached 20; the report becomes
stale, and a WATCHING receiver hands on report lost (R99, R104). Where a valid report was taken first, the age is below
20 and the expiry does not happen (R99). -/
def execFreshnessTimerExpiry (d : Four) (s : State) : Result :=
  .next
    (if (s.receiver d).fresh.isSome ∧ freshAge ≤ (s.receiver d).age then
      let t := s.modReceiver d fun v => { v with fresh := none }
      if (s.receiver d).watch = .watching then t.take [.fallback d] else t
     else s)

end Sys2Proof.Machine
end

