-- ==== Sys2Proof/Machine/MeterCommands.lean ====
section
/-!
DEFINITION. The commands of the Meter Unit (chapter 9): pulses, the flow timer and the calibration requests, with the
conversion of a limit at AUTHORIZE (R154) and the final figures (R157).
-/

namespace Sys2Proof.Machine

/-! ## Pulses (R83, R149, R150, R152, R156) -/

/-- A mass increment charged to the dispenser's reservation (R83). -/
def Precool.chargeMass (p : Precool) (d : Four) (grams : Nat) : Precool :=
  match p.table.get d with
  | none => p
  | some r =>
    { p with
      charge := p.charge + grams * r.h,
      table := p.table.set d (some { r with reserved := r.reserved - grams * r.h }) }

/-- Whether the mass stands at or above the close-ahead threshold (R156). -/
def MeterRec.limitReached (m : MeterRec) : Bool :=
  m.sale.elim false fun c => decide (closeAheadThreshold c ≤ m.mass)

/-- A mass increment handed on (R150): charged, checkpointed at each multiple of 50 g (R171), and in a running state
tested for the close-ahead. -/
def State.handIncrement (s : State) (d : Four) (grams : Nat) : State :=
  let t := s.modPrecool fun p => p.chargeMass d grams
  let t := if (t.meterRec d).mass % 50 = 0 then t.checkpoint d else t
  if (t.disp d).state.running ∧ (t.meterRec d).limitReached = true then t.endFill d .limit else t

/-- A metered pulse (R149, R150); N stops at its maximum. -/
def State.meteredPulse (s : State) (d : Four) : State :=
  let r := s.meterRec d
  if r.pulses < top32 then
    let m := massOf (r.pulses + 1) (s.meter.cal.factors.get d)
    let t := s.modMeterRec d fun r => { r with pulses := r.pulses + 1, mass := m }
    if r.mass < m then t.handIncrement d (m - r.mass) else t
  else s

/-- A creep pulse (R152). -/
def State.creepPulse (s : State) (d : Four) : State :=
  let n := (s.meterRec d).creep + 1
  if 10 ≤ massOf n (s.meter.cal.factors.get d) then
    (s.modMeterRec d fun r => { r with creep := 0 }).post .meterCreep (.dispenser d) 10
  else s.modMeterRec d fun r => { r with creep := n }

/-- METER_PULSE (R149). -/
def execMeterPulse (d : Four) (s : State) : Result :=
  .next (if (s.disp d).state.filling then s.meteredPulse d else s.creepPulse d)

/-- The flow history moved on by one place (R151). -/
def MeterRec.flowMark (m : MeterRec) : MeterRec := { m with flow := m.flow.tail ++ [m.mass] }

/-- FLOW_TIMER_EXPIRY (R151). -/
def execFlowTimerExpiry (s : State) : Result :=
  .next (s.modMeter fun m => { m with recs := m.recs.map (·.flowMark), flowTimer := some 100 })

/-- The flow estimate, grams per second; 0 where pulses are creep (R151). -/
def State.flowEstimate (s : State) (d : Four) : Nat :=
  let m := s.meterRec d
  if (s.disp d).state.filling then m.mass - m.flow.headD 0 else 0

/-! ## Price and limits (R154, R157) -/

/-- The price of a tariff code for a nozzle type (R154). -/
def WorkConfig.price (w : WorkConfig) (z : Nozzle) (code : Nat) : Nat :=
  let t := w.tariffs.getD code ⟨0, 0⟩
  match z with
  | .hp => t.hp
  | .mp => t.mp

/-- The limit kind of a field (section 1.8). -/
def limitKindOf : Nat → LimitKind
  | 1 => .money
  | 2 => .mass
  | _ => .none

/-- The station maximum of a nozzle type (R153). -/
def stationMax (c : SiteCfg) : Nozzle → Nat
  | .hp => c.hpMax
  | .mp => c.mpMax

/-- The price, limits and close-ahead that an AUTHORIZE would capture (R154). -/
def State.saleOf (s : State) (d : Four) (a : AuthorizeBody) : Sale :=
  let z := (s.dispCfg d).nozzle
  let p := WorkConfig.price s.work z a.tariff.toNat
  let kind := limitKindOf a.limitKind.toNat
  let v := a.limitValue.toNat
  let m := massLimit kind v p (stationMax s.work.site z)
  { price := p, kind := kind, value := v, mLim := m, cap := amountCap kind v p m, closeAhead := s.work.site.closeAhead }

/-- The final figures of a metering record (R157). -/
def MeterRec.finalise (m : MeterRec) : FinalFigures :=
  match m.sale with
  | none => ⟨m.mass, 0, 0⟩
  | some c => ⟨m.mass, billedFigure c m.mass, m.mass - c.mLim⟩

/-! ## Calibration (R161 to R164) -/

/-- Whether every dispenser is CLOSED, IDLE or FAULT (R162). -/
def State.forecourtAtRest (s : State) : Bool :=
  s.disps.toList.all fun p => decide (p.state = .closed) || decide (p.state = .idle) || decide (p.state = .fault)

/-- CAL OPEN as its owner takes it (R162). -/
def State.calOpen (s : State) : State × Answer :=
  if s.meter.session ≠ .none then (s, notNow .state)
  else if (s.switch .sealIn).settled ≠ some .opened then (s, notNow .sealed)
  else if !s.forecourtAtRest then (s, notNow .filling)
  else if 65535 ≤ s.meter.cal.audit then (s, notNow .auditFull)
  else (s.modMeter fun m => { m with session := .opened m.cal.factors }, okAnswer)

/-- CAL OPEN (R162). -/
def execCalOpen (tag : Byte) (s : State) : Result := .next (s.takeRequest 0x50 tag [] (answering State.calOpen))

/-- CAL WRITE as its owner takes it (R163). -/
def State.calWrite (s : State) (d : Four) (factor : Nat) : State × Answer :=
  match s.meter.session with
  | .opened staged => (s.modMeter fun m => { m with session := .opened (staged.set d factor) }, okAnswer)
  | _ => (s, notNow .notCalibrating)

/-- CAL WRITE (R163). -/
def execCalWrite (tag disp : Byte) (factor : Half) (s : State) : Result :=
  .next (s.takeRequest 0x51 tag ([disp] ++ half2 factor) (ownerOf disp fun d t => t.calWrite d factor.toNat))

/-- The record that a CAL CLOSE writes (R164). -/
def newCalRecord (old : CalRecord) (staged : Quad Nat) : CalRecord :=
  let audit := if staged = old.factors then old.audit else old.audit + 1
  ⟨staged, audit, crc16 (calBytes staged audit)⟩

/-- CAL CLOSE as its owner takes it: the session enters STORING, and the reply waits for the store (R164). -/
def State.calClose (s : State) : State × Option Answer :=
  match s.meter.session with
  | .opened staged => (s.modMeter fun m => { m with session := .storing (newCalRecord m.cal staged) }, none)
  | _ => (s, some (notNow .notCalibrating))

/-- CAL CLOSE (R164). -/
def execCalClose (tag : Byte) (s : State) : Result := .next (s.takeRequest 0x52 tag [] State.calClose)

/-- CAL_CLOSE_STORE_COMPLETE (R164, R182). -/
def execCalCloseStoreComplete (s : State) : Result :=
  .next
    (match s.meter.session with
     | .storing r =>
       let t := s.modMeter fun m => { m with cal := r, damaged := false, session := .none }
       let t := t.modSup fun u => { u with latches := u.latches.set .metrology false }
       t.sendReply (okData (.calClosed r.audit r.check))
     | _ => s)

/-- CAL READ (R163). -/
def execCalRead (tag : Byte) (s : State) : Result :=
  .next (s.takeRequest 0x53 tag []
    (reading fun t =>
      okData (.cal ⟨t.meter.cal, t.sup.latches.metrology, (t.switch .sealIn).settled, t.meter.session⟩)))

end Sys2Proof.Machine
end

