-- ==== Sys2Proof/Machine/FillCommands.lean ====
section
/-!
DEFINITION. The commands of the Dispenser Controllers (chapter 7): AUTHORIZE, CANCEL, STOP, OPEN, CLOSE, CLEAR,
READDISP, and the expiries of the timers of a fill.
-/

namespace Sys2Proof.Machine

/-! ## AUTHORIZE (R97, R108, R109) -/

/-- The vehicle selection of an AUTHORIZE (R97, section 1.8). -/
def selectionOf (a : AuthorizeBody) : Selection :=
  match a.selection.toNat with
  | 0 => .cls a.classNo.toNat
  | 1 => .user
  | _ => if a.fallbackKind = 0 then .autoCls a.classNo.toNat else .autoUser

/-- The vehicle parameters captured at acceptance, or the reason for which the selection fails (R97). -/
def captureVehicle (w : WorkConfig) (z : Nozzle) (a : AuthorizeBody) : Reason ⊕ Captured :=
  let sel := selectionOf a
  let user : Captured := ⟨sel, a.capacity.toNat, a.factor.toNat, none, none⟩
  let named (n : Nat) : Reason ⊕ Captured :=
    match namedClass w n with
    | none => .inl .classUndefined
    | some e => if classAllows e z then .inr ⟨sel, e.capacity, e.factor, e.pCls, e.soc⟩ else .inl .nozzleType
  match sel with
  | .cls n => named n
  | .autoCls n => named n
  | .user => .inr user
  | .autoUser => .inr user

/-- Conditions 5 to 9 of R108 in order: the reason of the first that fails, or what is captured. -/
def State.laterConditions (s : State) (d : Four) (a : AuthorizeBody) : Reason ⊕ (Captured × Sale) :=
  let sale := s.saleOf d a
  if 64 ≤ s.log.ring.length then .inl .logFull
  else if top32 ≤ s.log.counter then .inl .numbersExhausted
  else if sale.price = 0 then .inl .noPrice
  else
    match captureVehicle s.work (s.dispCfg d).nozzle a with
    | .inl r => .inl r
    | .inr v => if sale.mLim < 100 then .inl .limitTooSmall else .inr (v, sale)

/-- Acceptance (R109): the captures, the entry's creation begun, the authorization timer, AUTHORIZED; while a forced
reset is pending, a pre-start close with cause RESET follows at once (R190). -/
def State.acceptAuthorize (s : State) (d : Four) (a : AuthorizeBody) (v : Captured) (c : Sale) : State :=
  let t := s.modMeterRec d fun m => { m with sale := some c }
  let t := t.beginCreation (newEntry s d a c)
  let t := t.modDisp d fun p =>
    { p with
      state := .authorized, captured := some v, lastCause := none,
      timers := { p.timers with auth := seconds s.work.site.authTimeout } }
  if s.sup.resetPending then t.preStartClose d .reset else t

/-- AUTHORIZE as its owner takes it (R108): no answer yet where it is accepted, since the reply goes out when the entry's
store is complete (R169, Log 11). -/
def State.authorize (s : State) (d : Four) (a : AuthorizeBody) : State × Option Answer :=
  if (s.disp d).state ≠ .idle then (s, some (notNow .state))
  else if s.sup.station ≠ .ready then (s, some (refusedFor .shutdown))
  else if s.meter.session ≠ .none then (s, some (refusedFor .calibrating))
  else
    let t := s.checkCalibration
    if t.sup.latches.metrology then (t, some (refusedFor .metrology))
    else
      match t.laterConditions d a with
      | .inl r => (t, some (refusedFor r))
      | .inr (v, c) => (t.acceptAuthorize d a v c, none)

/-- AUTHORIZE (R108, R109). -/
def execAuthorize (tag : Byte) (body : AuthorizeBody) (s : State) : Result :=
  .next (s.takeRequest 0x20 tag (AuthorizeBody.bytes body) fun t =>
    match namedFour body.disp with
    | some d => t.authorize d body
    | none => (t, some (badValue 1)))

/-! ## CANCEL, STOP, OPEN, CLOSE, CLEAR (R110, R127, R131, R132) -/

/-- CANCEL as a dispenser takes it (R110). -/
def State.cancel (s : State) (d : Four) : State × Answer :=
  if (s.disp d).state = .authorized then (s.preStartClose d .cancelled, okAnswer) else (s, notNow .state)

/-- CANCEL (R110). -/
def execCancel (tag disp : Byte) (s : State) : Result :=
  .next (s.takeRequest 0x21 tag [disp] (ownerOf disp fun d t => t.cancel d))

/-- STOP (R127): broadcast with dispenser 0 (R7). -/
def execStop (tag disp : Byte) (s : State) : Result :=
  .next (s.takeRequest 0x22 tag [disp] (broadcastOwner disp fun d t => (t.endFill d .stationStop, okAnswer)))

/-- OPEN as a dispenser takes it (R132). -/
def Dispenser.takeOpen (p : Dispenser) : Dispenser :=
  if p.state = .closed then { p with state := .idle } else { p with closePending := false }

/-- OPEN (R132). -/
def execOpenDispenser (tag disp : Byte) (s : State) : Result :=
  .next (s.takeRequest 0x23 tag [disp] (broadcastOwner disp fun d t => (t.modDisp d (·.takeOpen), okAnswer)))

/-- CLOSE as a dispenser takes it (R132); CLOSE_PENDING is cleared at every entry to CLOSED (section 7.1). -/
def Dispenser.takeClose (p : Dispenser) : Dispenser :=
  match p.state with
  | .idle => { p with state := .closed, closePending := false }
  | .closed => p
  | _ => { p with closePending := true }

/-- CLOSE (R132). -/
def execCloseDispenser (tag disp : Byte) (s : State) : Result :=
  .next (s.takeRequest 0x24 tag [disp] (broadcastOwner disp fun d t => (t.modDisp d (·.takeClose), okAnswer)))

/-- CLEAR as a dispenser takes it (R131). -/
def State.clear (s : State) (d : Four) : State × Answer :=
  if (s.disp d).state = .fault then
    if s.holderIn d then (s.modDisp d (·.toService), okAnswer) else (s, notNow .nozzle)
  else (s, notNow .state)

/-- CLEAR (R131). -/
def execClear (tag disp : Byte) (s : State) : Result :=
  .next (s.takeRequest 0x25 tag [disp] (ownerOf disp fun d t => t.clear d))

/-! ## READDISP (R134) -/

/-- The least value of a leak ring. -/
def ringLeast : List Nat → Option Nat
  | [] => none
  | p :: rest => some (rest.foldl min p)

/-- A dispenser's report (R134, R155, R157): final figures in place of the live ones where they are held. The present
setpoint is the setpoint commanded to PCV(d), which in FUELLING is P_set(k) (R31, R145) and which R134 does not name
elsewhere (Log 36). R134 names no unit for the time remaining on a running timer: whole seconds, rounded down (Log 34). -/
def State.dispReport (s : State) (d : Four) : DispReport :=
  let p := s.disp d
  let m := s.meterRec d
  let value (r : ChanRec) : Option Int × ChanState := (r.value, r.state)
  { state := p.state, closePending := p.closePending, holder := (s.switch (.holder d)).settled,
    waitBank := p.waitBank, overshoot := p.overshoot, vehicleHalt := p.vehicleHalt, lastCause := p.lastCause,
    entry := (s.log.ownEntry d).map (·.number), fill := p.fill, setpoint := s.field.pcv.get d,
    timers := p.timers.map fun t => t.map (· / 1000),
    primary := value (s.chan (.primary d)), secondary := value (s.chan (.secondary d)),
    outlet := value (s.chan (.outlet d)), mass := m.mass,
    amount := if m.final.isSome then none else m.sale.map fun c => amount m.mass c.price,
    billed := (m.final.map (·.billed)).or (m.sale.map fun c => billedFigure c m.mass),
    overrun := m.final.map (·.overrun), flow := s.flowEstimate d, mLim := m.sale.map (·.mLim),
    cap := m.sale.map (·.cap), ringCount := p.leakRing.length, ringLeast := ringLeast p.leakRing,
    ringLast := p.leakRing.getLast?, leakDrop := p.leakDrop }

/-- READDISP (R134): with dispenser 0, each dispenser's result and report in dispenser order (R7). -/
def execReaddisp (tag disp : Byte) (s : State) : Result :=
  .next (s.takeRequest 0x26 tag [disp]
    (if disp = 0 then
      reading fun t => okData (.broadcastReports (Four.all.map fun d => (.ok, 0, t.dispReport d)))
     else ownerOf disp fun d t => (t, okData (.disp (t.dispReport d)))))

/-! ## The timers of a fill -/

/-- A timer's expiry that ends the fill of `d` with a cause, in a state where the timer's rule takes it. -/
def State.timedEnd (s : State) (d : Four) (running : Bool) (c : Cause) : State :=
  if running then s.endFill d c else s

/-- AUTHORIZATION_TIMER_EXPIRY (R111). -/
def execAuthorizationTimerExpiry (d : Four) (s : State) : Result :=
  .next (s.timedEnd d (decide ((s.disp d).state = .authorized) && (s.disp d).timers.auth.isSome) .authTimeout)

/-- The end of the connection pulse (R114): the path closed, the setpoint 0, SETTLE entered, the pulse bank released. -/
def State.endPulse (s : State) (d : Four) : State :=
  let t :=
    match s.banks.grant.get d with
    | some b => s.command (.bv b d) .closed
    | none => s
  let t := (t.command (.dv d) .closed).setPcv d 0
  let t := t.modDisp d fun p =>
    { p with state := .connecting .settle, timers := { p.timers with pulse := none, settle := some 2000 } }
  match s.banks.grant.get d with
  | some b => t.take [.release b d]
  | none => t

/-- PULSE_TIMER_EXPIRY (R114). -/
def execPulseTimerExpiry (d : Four) (s : State) : Result :=
  .next
    (if (s.disp d).state = .connecting .pulse ∧ (s.disp d).timers.pulse.isSome then s.endPulse d else s)

/-- Entry to LEAK_CHECK with P0 (R114, R115, R171). -/
def State.enterLeakCheck (s : State) (d : Four) (p0 : Nat) : State :=
  (s.modDisp d fun p =>
    { p with
      state := .leakCheck, leakRing := [], fill := p.fill.map fun f => { f with p0 := some p0 },
      timers := { p.timers with settle := none, leak := seconds s.work.site.leakHold } }).checkpoint d

/-- CONNECTION_SETTLE_EXPIRY (R114): P0 is the present value of the primary channel, held if INVALID; an absent one finds
no tank (Log 24). -/
def execConnectionSettleExpiry (d : Four) (s : State) : Result :=
  .next
    (if (s.disp d).state = .connecting .settle ∧ (s.disp d).timers.settle.isSome then
      match s.pDisp d with
      | some p => if p < 500 then s.endFill d .noPressure else s.enterLeakCheck d p
      | none => s.endFill d .noPressure
     else s)

/-- The leak check judged (R116): an empty ring, a drop over the limit, or planning. An empty ring gives no drop, and the
drop of an earlier leak check stays for READDISP (Log 36). -/
def State.judgeLeak (s : State) (d : Four) : State :=
  match ringLeast (s.disp d).leakRing with
  | none => s.endFill d .sensor
  | some least =>
    let drop := ((s.disp d).fill.elim 0 fun f => f.p0.getD 0) - least
    let t := s.modDisp d fun p =>
      { p with leakDrop := some drop, timers := { p.timers with leak := none } }
    if s.work.site.leakDrop < drop then t.endFill d .leak else t.take [.plan d]

/-- LEAK_HOLD_EXPIRY (R116, R117). -/
def execLeakHoldExpiry (d : Four) (s : State) : Result :=
  .next (if (s.disp d).state = .leakCheck ∧ (s.disp d).timers.leak.isSome then s.judgeLeak d else s)

/-- Whether a hold condition is set (R122). -/
def Dispenser.held (p : Dispenser) : Bool := p.waitBank || p.overshoot || p.vehicleHalt

/-- The advance of a ramp step (R120 part 1, R145). -/
def Ramp.advance (r : Ramp) (held : Bool) : Ramp :=
  if !held && decide (r.setpoint < r.target) then { r with k := r.k + 1 } else r

/-- RAMP_STEP (R120): advance, setpoint, bank, precool, and the timer restarted for the next step. -/
def execRampStep (d : Four) (s : State) : Result :=
  .next
    (if (s.disp d).state = .fuelling ∧ (s.disp d).timers.ramp.isSome then
      let held := (s.disp d).held
      let t := s.modFill d fun f => { f with ramp := f.ramp.map fun r => r.advance held }
      (t.commandSetpoint d).take [.rampBank d, .rampPrecool d, .rampRestart d]
     else s)

/-- FILL_TIME_EXPIRY (R126). -/
def execFillTimeExpiry (d : Four) (s : State) : Result :=
  .next (s.timedEnd d (decide ((s.disp d).state = .fuelling) && (s.disp d).timers.fill.isSome) .timeLimit)

/-- OVERSHOOT_TIMER_EXPIRY (R122). -/
def execOvershootTimerExpiry (d : Four) (s : State) : Result :=
  .next (s.timedEnd d ((s.disp d).overshoot && (s.disp d).timers.overshoot.isSome) .control)

/-- HALT_TIMER_EXPIRY (R122). -/
def execHaltTimerExpiry (d : Four) (s : State) : Result :=
  .next (s.timedEnd d ((s.disp d).vehicleHalt && (s.disp d).timers.halt.isSome) .vehicleHalt)

/-- The counters after an end of ENDING (R135). -/
def DispStats.count (k : DispStats) (c : Cause) : DispStats :=
  { k with
    complete := if c = .complete ∨ c = .socReached then satInc top16 k.complete else k.complete,
    faults := if c.isFault then satInc top16 k.faults else k.faults,
    leaks := if c = .leak then satInc top16 k.leaks else k.leaks,
    mismatches := if c = .meterMismatch then satInc top16 k.mismatches else k.mismatches }

/-- Leaving ENDING by the cause and the holder level (R130 step 7). -/
def Dispenser.leaveEnding (p : Dispenser) (c : Cause) (holderIn : Bool) : Dispenser :=
  let q := { p with timers := { p.timers with ending := none }, lastCause := some c, stats := p.stats.count c }
  if c.isFault then { q with state := .fault }
  else if holderIn then q.toService
  else { q with state := .ended }

/-- The end of ENDING (R130, R157, R173); the entry to ENDING has written the cause (Log 24). -/
def State.finishEnding (s : State) (d : Four) : State :=
  let c := ((s.disp d).fill.bind (·.cause)).getD .complete
  let figures := (s.meterRec d).finalise
  let t := s.modMeterRec d fun m => { m with final := some figures }
  let t := t.modPrecool fun p => { p with table := p.table.set d none }
  let t := t.closeFinal d (some c) figures
  let t := t.post .fillEnd (.dispenser d) c.code
  let t := if c.isFault then t.post .dispenserFault (.dispenser d) c.code else t
  t.modDisp d fun p => p.leaveEnding c (s.holderIn d)

/-- ENDING_SETTLE_EXPIRY (R130). -/
def execEndingSettleExpiry (d : Four) (s : State) : Result :=
  .next
    (if (s.disp d).state = .ending ∧ (s.disp d).timers.ending.isSome then s.finishEnding d else s)

end Sys2Proof.Machine
end

