-- ==== Sys2Proof/Machine/LogCommands.lean ====
section
/-!
DEFINITION. The commands of the Transaction Log (chapter 10): LOGNEXT, LOGGET, SETTLE, and the completions of its stores
to nonvolatile storage.
-/

namespace Sys2Proof.Machine

/-- LOGNEXT's answer: the first CLOSED entry from the tail (R174). -/
def State.nextClosed (s : State) : Answer :=
  match s.log.ring.find? fun e => decide (e.state = .closed) with
  | some e => okData (.bytes e.record)
  | none => bareAnswer .nothing

/-- LOGNEXT (R174). -/
def execLognext (tag : Byte) (s : State) : Result :=
  .next (s.takeRequest 0x40 tag [] (reading State.nextClosed))

/-- LOGGET's answer (R174). -/
def State.getEntry (s : State) (n : Nat) : Answer :=
  match findEntry n s.log.ring with
  | some e => okData (.bytes e.record)
  | none => bareAnswer .notFound

/-- LOGGET (R174). -/
def execLogget (tag : Byte) (number : Word) (s : State) : Result :=
  .next (s.takeRequest 0x41 tag (word4 number) (reading fun t => t.getEntry number.toNat))

/-- SETTLE as its owner takes it (R175, R176). -/
def State.settle (s : State) (n : Nat) : State × Answer :=
  match findEntry n s.log.ring with
  | none => (s, bareAnswer .notFound)
  | some e =>
    match e.state with
    | .closed => (s.settleEntry n, okAnswer)
    | .settled => (s, bareAnswer .already)
    | .opened => (s, notNow .openEntry)

/-- SETTLE (R175). -/
def execSettle (tag : Byte) (number : Word) (s : State) : Result :=
  .next (s.takeRequest 0x42 tag (word4 number) (answering fun t => t.settle number.toNat))

/-- The AUTHORIZE reply of a created entry (R109, R169). -/
def Creation.answer (c : Creation) : Answer := okData (.authorized c.entry.number c.entry.mLim c.entry.cap)

/-- LOG_ENTRY_STORE_COMPLETE: the oldest entry store under way completes (R169, R173, R176, Log 12). -/
def execLogEntryStoreComplete (s : State) : Result :=
  .next
    (match s.log.stores with
     | [] => s
     | st :: rest =>
       let t := s.modLog fun g => { g with stores := rest, stored := applyStore g.stored st }
       match st, s.log.creation with
       | .create, some c => (t.completeCreation c).sendReply c.answer
       | _, _ => t)

/-- Whether the creation of entry `n` is still being stored. -/
def TransLog.creating (g : TransLog) (n : Nat) : Bool := g.creation.elim false fun c => decide (c.entry.number = n)

/-- CHECKPOINT_STORE_COMPLETE: the image replaces the stored one, and the store of the one waiting begins (R172). -/
def execCheckpointStoreComplete (d : Four) (s : State) : Result :=
  .next
    (match s.log.checkpoints.get d with
     | none => s
     | some w =>
       if s.log.creating w.writing.number then s
       else
         s.modLog fun g =>
           { g with
             stored := applyImage g.stored w.writing,
             checkpoints := g.checkpoints.set d (w.waiting.map fun e => ⟨e, none⟩) })

/-- LOG_RECOVERY_STORE_COMPLETE: the recovered entry is stored whole, and the next is taken (R177, R179). -/
def execLogRecoveryStoreComplete (s : State) : Result :=
  .next
    (match s.log.recovering with
     | none => s
     | some e =>
       (s.modLog fun g =>
         { g with
           ring := changeEntry e.number (fun _ => e) g.ring, stored := changeEntry e.number (fun _ => e) g.stored }
         ).recoverNext)

end Sys2Proof.Machine
end

