-- ==== Sys2Proof/Machine/SupervisorCommands.lean ====
section
/-!
DEFINITION. The commands of the Station Supervisor (chapter 11): RESET, RESUME and the three resets; READSTATS (R16,
R106, R135); and the passing of 100 ms while no command waits (Log 2).
-/

namespace Sys2Proof.Machine

/-! ## RESET and RESUME (R187, R190) -/

/-- A RESET taken (R190): while reset pending is set it changes nothing; with force, every dispenser is ordered to end
(R128). -/
def State.askReset (s : State) (force : Bool) : State :=
  if s.sup.resetPending then s
  else
    let t := s.modSup fun u => { u with resetAsked := .asked, resetPending := force }
    if force then t.endAll .reset else t

/-- RESET as its owner takes it (R190). -/
def State.takeReset (s : State) (force : Bool) : State × Answer :=
  if s.anyFilling && !force then (s, notNow .filling) else (s.askReset force, okAnswer)

/-- RESET (R190). -/
def execReset (tag force : Byte) (s : State) : Result :=
  .next (s.takeRequest 0x05 tag [force] (answering fun t => t.takeReset (decide (force = 1))))

/-- Each latch whose condition has gone cleared; a bank whose condition has gone leaves the bank set (R187). -/
def State.clearLatches (s : State) : State :=
  let l := s.sup.latches
  let keep (c : FaultCause) : Bool := l.get c && s.faultPresent c
  let stay (b : Four) : Bool := l.overSet.get b && s.overpressureHolds b
  s.modSup fun u =>
    { u with
      latches :=
        { esd := keep .esd, gasAlarm := keep .gasAlarm, valveStuckOpen := keep .valveStuckOpen,
          bankOverpressure := keep .bankOverpressure, metrology := keep .metrology, compressor := keep .compressor,
          overSet := ⟨stay .one, stay .two, stay .three, stay .four⟩ } }

/-- RESUME as its owner takes it (R74, R187). -/
def State.resume (s : State) : State × Answer :=
  let t := s.clearLatches
  match t.sup.station with
  | .shutdown =>
    if t.shutdownCause.isSome then (t, notNow .latched)
    else
      let u := (t.modSup fun u => { u with station := .ready }).post .stationResumed .station 0
      (u.compResume.evalStart, okAnswer)
  | _ => (t, okAnswer)

/-- RESUME (R187). -/
def execResume (tag : Byte) (s : State) : Result :=
  .next (s.takeRequest 0x06 tag [] (answering State.resume))

/-! ## READSTATS (R16, R106, R135) -/

/-- The counters of a source, each cleared as it is returned (R16). -/
def State.takeStats (s : State) (source : Nat) (number : Nat) : State × Answer :=
  match source, Four.ofNat? number with
  | 0, _ =>
    (s.modLink fun l => { l with framing := 0, overrun := 0, discarded := 0 },
      okData (.counters [s.link.framing, s.link.overrun, s.link.discarded]))
  | 1, some d =>
    let k := (s.disp d).stats
    (s.modDisp d fun p => { p with stats := ⟨0, 0, 0, 0, 0⟩ },
      okData (.counters [k.complete, k.faults, k.leaks, k.downgrades, k.mismatches]))
  | _, some d =>
    let v := s.receiver d
    (s.modReceiver d fun v => { v with valid := 0, checkFailures := 0, rangeFailures := 0, fallbacks := 0 },
      okData (.counters [v.valid, v.checkFailures, v.rangeFailures, v.fallbacks]))
  | _, none => (s, badValue 2)

/-- READSTATS (R16). -/
def execReadstats (tag source number : Byte) (s : State) : Result :=
  .next (s.takeRequest 0x60 tag [source, number] (answering fun t => t.takeStats source.toNat number.toNat))

/-! ## Resets (section 11.5) -/

/-- POWER_ON: at once, whatever is in progress (R179, R190). -/
def execPowerOn (s : State) : Result := .next (s.afterReset .powerOn)

/-- RESET_LINE: at once, whatever is in progress (R179, R190). -/
def execResetLine (s : State) : Result := .next (s.afterReset .resetLine)

/-- Whether a store is that of a closed entry (R173). -/
def EntryStore.closes : EntryStore → Bool
  | .close _ => true
  | _ => false

/-- Whether a closed entry is still being stored (R173). -/
def TransLog.closing (g : TransLog) : Bool := g.stores.any (·.closes)

/-- Whether a station reset asked for can take effect (R190): its reply is sent and, where it was forced, no dispenser is
in AUTHORIZED, a running state or ENDING, and every close is stored, since a forced reset has closed every entry and
leaves nothing to recover (R128, R177; Log 13). -/
def State.resetDue (s : State) : Bool :=
  decide (s.sup.resetAsked = .answered) &&
    (!s.sup.resetPending ||
      (s.disps.toList.all fun p => !p.state.filling && decide (p.state ≠ .authorized)) && !s.log.closing)

/-- STATION_RESET (R190); where no reset is due, the row changes nothing (Log 13). -/
def execStationReset (s : State) : Result := .next (if s.resetDue then s.afterReset .station else s)

/-! ## 100 ms pass (Log 2) -/

/-- A timer after 100 ms: it stays running at 0 until its expiry is taken (Log 3). -/
def Timer.tick (t : Timer) : Timer := t.map (· - 100)

/-- A debounced input after 100 ms. -/
def SwitchRec.tick (r : SwitchRec) : SwitchRec := { r with timer := Timer.tick r.timer }

/-- A channel record after 100 ms: its age counts in 0.1 s (R18). -/
def ChanRec.tick (r : ChanRec) : ChanRec := { r with age := satInc top16 r.age, hold := Timer.tick r.hold }

/-- The Field Interface after 100 ms. -/
def Field.tick (f : Field) : Field :=
  { f with
    chans := f.chans.mapAll (·.tick), switches := f.switches.mapAll (·.tick),
    valves := f.valves.mapAll fun r => { r with feedback := r.feedback.tick, travel := Timer.tick r.travel },
    running := f.running.tick, sweep := { f.sweep with wait := Timer.tick f.sweep.wait } }

/-- The timers of a dispenser after 100 ms. -/
def DispTimers.tick (m : DispTimers) : DispTimers := m.map Timer.tick

/-- A bank record after 100 ms. -/
def BankRec.tick (k : BankRec) : BankRec :=
  { k with window := k.window.map fun w => { w with check := Timer.tick w.check } }

/-- The Compressor Scheduler after 100 ms; the time since the run output went off is only compared with 30 s (R73). -/
def Compressor.tick (c : Compressor) : Compressor :=
  { c with
    timer := Timer.tick c.timer, deferral := Timer.tick c.deferral, mismatch := Timer.tick c.mismatch,
    sinceOff := min 30000 (c.sinceOff + 100) }

/-- The Precool Unit after 100 ms. -/
def Precool.tick (p : Precool) : Precool :=
  { p with
    thermal := Timer.tick p.thermal, waitList := p.waitList.map fun w => { w with timer := Timer.tick w.timer } }

/-- A receiver after 100 ms: its age counts in 0.1 s (R99). -/
def VehicleReceiver.tick (v : VehicleReceiver) : VehicleReceiver :=
  { v with age := satInc top16 v.age, fresh := Timer.tick v.fresh }

/-- 100 ms pass: ages count and running timers run down; whatever follows an expiry waits for its own command (Log 2). -/
def State.elapse (s : State) : State :=
  { s with
    link := { s.link with gap := Timer.tick s.link.gap, supTimer := Timer.tick s.link.supTimer },
    field := s.field.tick,
    banks := { s.banks with recs := s.banks.recs.map (·.tick), wait := s.banks.wait.map Timer.tick },
    comp := s.comp.tick, precool := s.precool.tick, receivers := s.receivers.map (·.tick),
    disps := s.disps.map fun p => { p with timers := p.timers.tick },
    meter := { s.meter with flowTimer := Timer.tick s.meter.flowTimer } }

end Sys2Proof.Machine
end

