-- ==== Sys2Proof/Machine/Dispatch.lean ====
section
/-!
DEFINITION. The meaning of every command: one arm per constructor of Instr, each one direct call of its meaning.
-/

namespace Sys2Proof.Machine

def exec (i : Instr) (s : State) : Host.Outcome State Fault Refusal :=
  match i with
  | .frameReceived f => Sys2Proof.Machine.execFrameReceived f s
  | .linkByteReceived b => Sys2Proof.Machine.execLinkByteReceived b s
  | .interByteGapTimeout => Sys2Proof.Machine.execInterByteGapTimeout s
  | .replySent => Sys2Proof.Machine.execReplySent s
  | .linkTimerExpiry => Sys2Proof.Machine.execLinkTimerExpiry s
  | .clockTick => Sys2Proof.Machine.execClockTick s
  | .status tag => Sys2Proof.Machine.execStatus tag s
  | .notice tag => Sys2Proof.Machine.execNotice tag s
  | .time tag value => Sys2Proof.Machine.execTime tag value s
  | .linkset tag timeout action => Sys2Proof.Machine.execLinkset tag timeout action s
  | .reset tag force => Sys2Proof.Machine.execReset tag force s
  | .resume tag => Sys2Proof.Machine.execResume tag s
  | .actset tag cause enable => Sys2Proof.Machine.execActset tag cause enable s
  | .selftest tag => Sys2Proof.Machine.execSelftest tag s
  | .cfgwrite tag group index item value => Sys2Proof.Machine.execCfgwrite tag group index item value s
  | .cfgread tag group index item => Sys2Proof.Machine.execCfgread tag group index item s
  | .cfgsave tag => Sys2Proof.Machine.execCfgsave tag s
  | .tariffWrite tag code hp mp => Sys2Proof.Machine.execTariffWrite tag code hp mp s
  | .authorize tag body => Sys2Proof.Machine.execAuthorize tag body s
  | .cancel tag disp => Sys2Proof.Machine.execCancel tag disp s
  | .stop tag disp => Sys2Proof.Machine.execStop tag disp s
  | .openDispenser tag disp => Sys2Proof.Machine.execOpenDispenser tag disp s
  | .closeDispenser tag disp => Sys2Proof.Machine.execCloseDispenser tag disp s
  | .clear tag disp => Sys2Proof.Machine.execClear tag disp s
  | .readdisp tag disp => Sys2Proof.Machine.execReaddisp tag disp s
  | .refill tag bank priority => Sys2Proof.Machine.execRefill tag bank priority s
  | .isolate tag bank => Sys2Proof.Machine.execIsolate tag bank s
  | .restore tag bank => Sys2Proof.Machine.execRestore tag bank s
  | .compressorOn tag => Sys2Proof.Machine.execCompressorOn tag s
  | .compressorOff tag => Sys2Proof.Machine.execCompressorOff tag s
  | .readbank tag bank => Sys2Proof.Machine.execReadbank tag bank s
  | .readprecool tag => Sys2Proof.Machine.execReadprecool tag s
  | .lognext tag => Sys2Proof.Machine.execLognext tag s
  | .logget tag number => Sys2Proof.Machine.execLogget tag number s
  | .settle tag number => Sys2Proof.Machine.execSettle tag number s
  | .calOpen tag => Sys2Proof.Machine.execCalOpen tag s
  | .calWrite tag disp factor => Sys2Proof.Machine.execCalWrite tag disp factor s
  | .calClose tag => Sys2Proof.Machine.execCalClose tag s
  | .calRead tag => Sys2Proof.Machine.execCalRead tag s
  | .readstats tag source number => Sys2Proof.Machine.execReadstats tag source number s
  | .cfgsaveStoreComplete => Sys2Proof.Machine.execCfgsaveStoreComplete s
  | .calCloseStoreComplete => Sys2Proof.Machine.execCalCloseStoreComplete s
  | .checkpointStoreComplete d => Sys2Proof.Machine.execCheckpointStoreComplete d s
  | .logEntryStoreComplete => Sys2Proof.Machine.execLogEntryStoreComplete s
  | .logRecoveryStoreComplete => Sys2Proof.Machine.execLogRecoveryStoreComplete s
  | .analogSample c current => Sys2Proof.Machine.execAnalogSample c current s
  | .channelHoldExpiry c => Sys2Proof.Machine.execChannelHoldExpiry c s
  | .meterPulse d => Sys2Proof.Machine.execMeterPulse d s
  | .switchLevelChange n l => Sys2Proof.Machine.execSwitchLevelChange n l s
  | .debounceExpiry w => Sys2Proof.Machine.execDebounceExpiry w s
  | .valveFeedbackSettled v => Sys2Proof.Machine.execValveFeedbackSettled v s
  | .valveTravelExpiry v => Sys2Proof.Machine.execValveTravelExpiry v s
  | .compressorFeedbackSettled => Sys2Proof.Machine.execCompressorFeedbackSettled s
  | .referenceSweepStep c current => Sys2Proof.Machine.execReferenceSweepStep c current s
  | .sweepValveWaitExpiry => Sys2Proof.Machine.execSweepValveWaitExpiry s
  | .bankWaitExpiry d => Sys2Proof.Machine.execBankWaitExpiry d s
  | .drawWindowCheckExpiry b => Sys2Proof.Machine.execDrawWindowCheckExpiry b s
  | .deferralTimerExpiry => Sys2Proof.Machine.execDeferralTimerExpiry s
  | .spinUpExpiry => Sys2Proof.Machine.execSpinUpExpiry s
  | .progressTimerExpiry => Sys2Proof.Machine.execProgressTimerExpiry s
  | .switchTimerExpiry => Sys2Proof.Machine.execSwitchTimerExpiry s
  | .runDownExpiry => Sys2Proof.Machine.execRunDownExpiry s
  | .restTimerExpiry => Sys2Proof.Machine.execRestTimerExpiry s
  | .mismatchTimerExpiry => Sys2Proof.Machine.execMismatchTimerExpiry s
  | .thermalUpdate => Sys2Proof.Machine.execThermalUpdate s
  | .precoolWaitExpiry d => Sys2Proof.Machine.execPrecoolWaitExpiry d s
  | .vehicleReportFrame d bytes => Sys2Proof.Machine.execVehicleReportFrame d bytes s
  | .freshnessTimerExpiry d => Sys2Proof.Machine.execFreshnessTimerExpiry d s
  | .authorizationTimerExpiry d => Sys2Proof.Machine.execAuthorizationTimerExpiry d s
  | .pulseTimerExpiry d => Sys2Proof.Machine.execPulseTimerExpiry d s
  | .connectionSettleExpiry d => Sys2Proof.Machine.execConnectionSettleExpiry d s
  | .leakHoldExpiry d => Sys2Proof.Machine.execLeakHoldExpiry d s
  | .rampStep d => Sys2Proof.Machine.execRampStep d s
  | .fillTimeExpiry d => Sys2Proof.Machine.execFillTimeExpiry d s
  | .overshootTimerExpiry d => Sys2Proof.Machine.execOvershootTimerExpiry d s
  | .haltTimerExpiry d => Sys2Proof.Machine.execHaltTimerExpiry d s
  | .endingSettleExpiry d => Sys2Proof.Machine.execEndingSettleExpiry d s
  | .flowTimerExpiry => Sys2Proof.Machine.execFlowTimerExpiry s
  | .powerOn => Sys2Proof.Machine.execPowerOn s
  | .resetLine => Sys2Proof.Machine.execResetLine s
  | .stationReset => Sys2Proof.Machine.execStationReset s

end Sys2Proof.Machine
end

