-- ==== Sys2Proof/Safety.lean ====
section
/-!
DEFINITION. What the statements about the controller are said with: the invariants of the specification as predicates on
the state, when a request reaches its owner (R3), and the reply it leaves in transmission (R5).
-/

namespace Sys2Proof.Machine

/-! ## Invariants -/

/-- The notice queue holds at most 32 notices (R8). -/
def State.noticesFit (s : State) : Prop := s.link.notices.length ≤ 32

/-- The cold reserve stays within E_max (R82). -/
def State.reserveFits (s : State) : Prop := s.precool.reserve ≤ s.work.precool.eMax

/-- The calibration record agrees with its check value, and so does the record that a CAL CLOSE is writing (R160). -/
def State.calibrationSound (s : State) : Prop :=
  s.meter.cal.agrees = true ∧ ∀ r, s.meter.session = .storing r → r.agrees = true

/-- Entries in strictly rising order of their numbers, each number below the transaction counter (R168). -/
def Numbered (counter : Nat) (ring : List LogEntry) : Prop :=
  ring.Pairwise (fun a b => a.number < b.number) ∧ ∀ e ∈ ring, e.number < counter

/-- The ring as it is read and the ring as it is stored are numbered, and the entry being created takes the number that
the counter holds (R168). -/
def TransLog.ordered (g : TransLog) : Prop :=
  Numbered g.counter g.ring ∧ Numbered g.counter g.stored ∧
    ∀ c, g.creation = some c → c.entry.number = g.counter ∧ c.stored.number = g.counter

/-- No proportional output is set above `top`, no ramp aims above it, and no figure on the precool wait list does. -/
def State.setpointsWithin (s : State) (top : Nat) : Prop :=
  (∀ d, s.field.pcv.get d ≤ top) ∧
  (∀ d f r, (s.disp d).fill = some f → f.ramp = some r → r.target ≤ top) ∧
  ∀ w ∈ s.precool.waitList, ∀ x ∈ w.request.figures, x.2.target ≤ top

/-! ## Requests -/

/-- A dispenser or bank number as a field of a request. -/
def Four.field (d : Four) : Byte := BitVec.ofNat 8 d.num

/-- The ranges of the items that take every number between two bounds, as the tables of R35, R77, R95, R107, R139, R153 and
R188 give them: group, item, least and greatest value. R0's least value is that of the pair's nozzle type, and stands with
the statement, as do the optional items, the group width and the cascade order. -/
def itemRanges : List (Nat × Nat × Int × Int) :=
  [(1, 1, 0, 255), (1, 2, 0, 1), (1, 3, 500, 10000), (1, 4, 500, 10000), (1, 5, 1000, 20000), (1, 6, 5, 120),
    (1, 7, 1, 10), (1, 8, 80, 100), (1, 9, 80, 100), (1, 10, 10, 600), (1, 11, 3, 30), (1, 12, 100, 2000),
    (1, 13, 60, 3600), (1, 14, 60, 3600), (1, 15, 0, 300), (1, 16, 0, 500), (1, 17, 100, 100000),
    (1, 18, 100, 100000), (1, 19, 0, 1), (1, 20, 0, 1), (1, 21, 0, 1), (1, 22, 0, 1), (1, 23, 0, 1)] ++
  [(2, 1, 1, 4), (2, 2, 10000, 100000), (2, 3, 10, 5000), (2, 4, 1000, 100000), (2, 5, 1000, 100000), (2, 6, 0, 3),
    (2, 7, 0, 20000), (3, 1, 1, 2), (3, 3, 0, 1)] ++
  [(4, 1, 5000000, 100000000), (4, 2, 1000, 30000), (4, 3, 0, 10000), (4, 4, 8, 30), (4, 5, 10, 600),
    (4, 6, -600, 0), (4, 7, -600, 0), (4, 8, -600, 0), (4, 9, -600, 100), (4, 10, -600, 100), (4, 11, -600, 100),
    (4, 12, 0, 100000000), (4, 13, 0, 100000000), (4, 14, 0, 100000000)] ++
  [(5, 2, 0, 50), (5, 3, 0, 500), (6, 1, 0, 1), (6, 2, 1, 3), (6, 3, 0, 16777215), (6, 5, 100, 60000), (6, 6, 25, 100),
    (7, 1, 0, 999999), (7, 2, 0, 999999)]

/-- `u` is the state in which the owner takes the request (R3): the request waits in the receive buffer already, or its
frame arrives at an empty buffer, restarts link supervision and is held there. -/
def State.Offers (s : State) (kind tag : Byte) (body : List Byte) (u : State) : Prop :=
  (s.link.buffer = some ⟨kind, tag, body, .waiting⟩ ∧ u = s) ∨
  (s.link.buffer = none ∧ (s.startingUp = false ∨ kind = 0x01) ∧
    u = s.superviseFrame.holdRequest kind tag body .waiting)

/-- The reply in transmission is to this request, with this answer; PENDING counts the notices that wait (R5). -/
def State.Replies (t : State) (kind tag : Byte) (body : List Byte) (a : Answer) : Prop :=
  t.link.buffer =
    some ⟨kind, tag, body,
      .replying ⟨kind ||| 0x80, tag, a.result, t.link.notices.length, a.detail, a.data⟩⟩

/-- What a row leaves behind: the state after it, or the state before it where the row stops. -/
def State.after (s : State) (i : Instr) : State :=
  match exec i s with
  | .next t => t
  | _ => s

/-- Bytes arriving on the line, one after another. -/
def State.hear (s : State) (bs : List Byte) : State := bs.foldl (fun t b => t.after (.linkByteReceived b)) s

/-- The bytes of a frame after SYNC: LENGTH, KIND, TAG, BODY and CRC (section 1.8). -/
def frameBytes (f : Frame) : List Byte :=
  beBytes 2 f.body.length ++ [f.kind, f.tag] ++ f.body ++ beBytes 2 f.crc.toNat

/-- The CRC of a frame agrees (R2). -/
def crcAgrees (f : Frame) : Prop := crc16 (beBytes 2 f.body.length ++ [f.kind, f.tag] ++ f.body) = f.crc

/-- The frame that a request's row stands for: its KIND, TAG and body (R6); none for a row that is not a request. -/
def requestOf : Instr → Option (Byte × Byte × List Byte)
  | .status g => some (0x01, g, [])
  | .notice g => some (0x02, g, [])
  | .time g v => some (0x03, g, word4 v)
  | .linkset g a b => some (0x04, g, [a, b])
  | .reset g a => some (0x05, g, [a])
  | .resume g => some (0x06, g, [])
  | .actset g a b => some (0x07, g, [a, b])
  | .selftest g => some (0x08, g, [])
  | .cfgwrite g a b c v => some (0x10, g, [a, b, c] ++ word4 v)
  | .cfgread g a b c => some (0x11, g, [a, b, c])
  | .cfgsave g => some (0x12, g, [])
  | .tariffWrite g a v w => some (0x13, g, [a] ++ word4 v ++ word4 w)
  | .authorize g a => some (0x20, g, AuthorizeBody.bytes a)
  | .cancel g a => some (0x21, g, [a])
  | .stop g a => some (0x22, g, [a])
  | .openDispenser g a => some (0x23, g, [a])
  | .closeDispenser g a => some (0x24, g, [a])
  | .clear g a => some (0x25, g, [a])
  | .readdisp g a => some (0x26, g, [a])
  | .refill g a b => some (0x30, g, [a, b])
  | .isolate g a => some (0x31, g, [a])
  | .restore g a => some (0x32, g, [a])
  | .compressorOn g => some (0x33, g, [])
  | .compressorOff g => some (0x34, g, [])
  | .readbank g a => some (0x35, g, [a])
  | .readprecool g => some (0x36, g, [])
  | .lognext g => some (0x40, g, [])
  | .logget g v => some (0x41, g, word4 v)
  | .settle g v => some (0x42, g, word4 v)
  | .calOpen g => some (0x50, g, [])
  | .calWrite g a h => some (0x51, g, [a] ++ half2 h)
  | .calClose g => some (0x52, g, [])
  | .calRead g => some (0x53, g, [])
  | .readstats g a b => some (0x60, g, [a, b])
  | _ => none

end Sys2Proof.Machine
end

