-- ==== Sys2Proof/Certificates/Slice0/Obligations.lean ====
section
/-!
DEFINITION. The statements about the controller. Each says what a command or a part of the controller does, in the words
of the rules it rests on; `State.Offers` names the state in which a request's owner takes it, where a request's row and its frame
meet as Log 1 says. An expiry's row acts while its timer runs, whatever time is left (the model's choice, Log 3); the
freshness timer's acts by its age (R99).
-/

open Sys2Proof Sys2Proof.Machine

/-! ## The step -/

/-- A step takes the command at the front of the queue and executes it on the queue's rest. -/
def Obligations.StepTakesTheFrontCommand : Prop :=
  ∀ (c : Instr) (rest : List Instr) (s : State),
    step { s with pending := c :: rest } = exec c { s with pending := rest }

/-- With no command waiting, a step lets 100 ms pass (the model's choice, Log 2): ages count, running timers run down to
0 and no further (Log 3), and the rest of the state, written out here, is exactly as it was. -/
def Obligations.AnEmptyQueueLets100MsPass : Prop :=
  ∀ s : State, s.pending = [] →
    let ticked (t : Timer) : Timer := t.map (· - 100)
    step s =
      .next { s with
        link := { s.link with gap := ticked s.link.gap, supTimer := ticked s.link.supTimer },
        field := { s.field with
          chans := s.field.chans.mapAll fun r => { r with age := min 65535 (r.age + 1), hold := ticked r.hold },
          switches := s.field.switches.mapAll fun r => { r with timer := ticked r.timer },
          valves := s.field.valves.mapAll fun r =>
            { r with feedback := { r.feedback with timer := ticked r.feedback.timer }, travel := ticked r.travel },
          running := { s.field.running with timer := ticked s.field.running.timer },
          sweep := { s.field.sweep with wait := ticked s.field.sweep.wait } },
        banks := { s.banks with
          recs := s.banks.recs.map fun k =>
            { k with window := k.window.map fun w => { w with check := ticked w.check } },
          wait := s.banks.wait.map ticked },
        comp := { s.comp with
          timer := ticked s.comp.timer, deferral := ticked s.comp.deferral, mismatch := ticked s.comp.mismatch,
          sinceOff := min 30000 (s.comp.sinceOff + 100) },
        precool := { s.precool with
          thermal := ticked s.precool.thermal,
          waitList := s.precool.waitList.map fun w => { w with timer := ticked w.timer } },
        receivers := s.receivers.map fun v => { v with age := min 65535 (v.age + 1), fresh := ticked v.fresh },
        disps := s.disps.map fun p =>
          { p with timers :=
            { auth := ticked p.timers.auth, pulse := ticked p.timers.pulse, settle := ticked p.timers.settle,
              leak := ticked p.timers.leak, ramp := ticked p.timers.ramp, fill := ticked p.timers.fill,
              overshoot := ticked p.timers.overshoot, halt := ticked p.timers.halt,
              ending := ticked p.timers.ending } },
        meter := { s.meter with flowTimer := ticked s.meter.flowTimer } }
/-- Every command answers a next state, and none touches the queue of the commands that wait behind it. -/
def Obligations.EveryCommandKeepsTheQueue : Prop :=
  ∀ (i : Instr) (s : State), ∃ t, exec i s = .next t ∧ t.pending = s.pending

/-! ## The station link -/

/-- LINK_BYTE_RECEIVED while hunting and inside a frame that the byte does not complete, and INTER_BYTE_GAP_TIMEOUT
(R1, R2, R16). -/
def Obligations.TheReceiverTakesBytes : Prop :=
  ∀ (s : State) (b : Byte),
    (s.link.receiver = .hunting → b ≠ 0xA5 → exec (.linkByteReceived b) s = .next s) ∧
    (s.link.receiver = .hunting →
      exec (.linkByteReceived 0xA5) s =
        .next { s with link := { s.link with receiver := .inside [], gap := some 50 } }) ∧
    (∀ bs, s.link.receiver = .inside bs →
      ((bs ++ [b]).length < 2 ∨
        (fieldAt (bs ++ [b]) 0 2 ≤ 250 ∧ (bs ++ [b]).length < fieldAt (bs ++ [b]) 0 2 + 6)) →
      exec (.linkByteReceived b) s =
        .next { s with link := { s.link with receiver := .inside (bs ++ [b]), gap := some 50 } }) ∧
    (∀ bs, s.link.receiver = .inside bs → 2 ≤ (bs ++ [b]).length → 250 < fieldAt (bs ++ [b]) 0 2 →
      exec (.linkByteReceived b) s =
        .next { s with
          link := { s.link with receiver := .hunting, gap := none, framing := min 65535 (s.link.framing + 1) } }) ∧
    (s.link.gap.isSome = true →
      exec .interByteGapTimeout s =
        .next { s with
          link := { s.link with receiver := .hunting, gap := none, framing := min 65535 (s.link.framing + 1) } })

/-- The bytes of any frame of LENGTH 250 or less, heard one after another by a hunting receiver, do exactly what the
frame's completion does (R1, R2, section 1.8). -/
def Obligations.BytesOfAFrameAreThatFrame : Prop :=
  ∀ (f : Frame) (s : State), s.link.receiver = .hunting → f.body.length ≤ 250 →
    exec (.frameReceived f) s = .next (s.hear (0xA5 :: frameBytes f))
/-- FRAME_RECEIVED (R2, R3, R4, R13): a frame that fails a check of R2 is counted and nothing else; a well-formed one
restarts supervision, and then waits for its owner, is answered by the check of R3 that fails first, or is noted or
discarded behind the request in service. Supervision (R13): OFF stays so; WATCHING and LOST become WATCHING, the timer
at the full timeout. The checks (R3): a KIND that is not one of R6's is UNKNOWN_KIND, a body not of R6's length
BAD_LENGTH, a request other than STATUS in START_UP is STARTING, and the first field out of its range is BAD_VALUE with
its index. -/
def Obligations.AFrameIsCheckedAndTaken : Prop :=
  (∀ (f : Frame) (s : State),
    (250 < f.body.length ∨ ¬ crcAgrees f →
      exec (.frameReceived f) s =
        .next { s with
          link := { s.link with receiver := .hunting, gap := none, framing := min 65535 (s.link.framing + 1) } }) ∧
    (f.body.length ≤ 250 → crcAgrees f → s.link.buffer = none →
      (s.hunt.superviseFrame.frameCheck f.kind f.body = none →
        exec (.frameReceived f) s =
          .next (s.hunt.superviseFrame.holdRequest f.kind f.tag f.body .waiting)) ∧
      (∀ a, s.hunt.superviseFrame.frameCheck f.kind f.body = some a →
        exec (.frameReceived f) s =
          .next ((s.hunt.superviseFrame.holdRequest f.kind f.tag f.body .waiting).sendReply a))) ∧
    (f.body.length ≤ 250 → crcAgrees f → s.link.buffer ≠ none →
      (s.link.note = none →
        exec (.frameReceived f) s =
          .next (s.hunt.superviseFrame.modLink fun l => { l with note := some (f.kind, f.tag) })) ∧
      (s.link.note ≠ none →
        exec (.frameReceived f) s =
          .next (s.hunt.superviseFrame.modLink fun l => { l with overrun := min 65535 (l.overrun + 1) })))) ∧
  (∀ s : State,
    (s.link.supervision = .off → s.superviseFrame = s) ∧
    (s.link.supervision = .watching ∨ s.link.supervision = .lost →
      s.superviseFrame = { s with
        link := { s.link with supervision := .watching, supTimer := some (s.work.site.linkTimeout * 1000) } })) ∧
  (∀ (s : State) (k : Byte) (body : List Byte),
    let answer (r : ResultCode) (n : Nat) : Option Answer := some ⟨r, n, .none⟩
    (bodyLength k.toNat = none → s.frameCheck k body = answer .unknownKind 0) ∧
    (∀ n, bodyLength k.toNat = some n →
      (body.length ≠ n → s.frameCheck k body = answer .badLength 0) ∧
      (body.length = n → s.startingUp = true → k ≠ 0x01 → s.frameCheck k body = answer .notNow 2) ∧
      (body.length = n → s.startingUp = false ∨ k = 0x01 →
        (∀ pre i post, fieldChecks k.toNat body = pre ++ (i, false) :: post → (∀ c ∈ pre, c.2 = true) →
          s.frameCheck k body = answer .badValue i) ∧
        ((∀ c ∈ fieldChecks k.toNat body, c.2 = true) → s.frameCheck k body = none)))) ∧
  (∀ k : Byte, bodyLength k.toNat = List.lookup k.toNat
    ([(0x01, 0), (0x02, 0), (0x03, 4), (0x04, 2), (0x05, 1), (0x06, 0), (0x07, 2), (0x08, 0), (0x10, 7), (0x11, 3),
      (0x12, 0), (0x13, 9), (0x20, 14), (0x21, 1), (0x22, 1), (0x23, 1), (0x24, 1), (0x25, 1), (0x26, 1), (0x30, 2),
      (0x31, 1), (0x32, 1), (0x33, 0), (0x34, 0), (0x35, 1), (0x36, 0), (0x40, 0), (0x41, 4), (0x42, 4), (0x50, 0),
      (0x51, 3), (0x52, 0), (0x53, 0), (0x60, 2)] : List (Nat × Nat)))

/-- REPLY_SENT (R3, R4): the buffer is emptied, or the noted frame's BUSY reply goes out first and empties both; the
reply that granted a RESET lets the reset take effect (R190). The reply in transmission is the frame of section 1.8: SYNC,
LENGTH, KIND, TAG, the head RESULT, PENDING and DETAIL with the reply data, and the CRC; a broadcast's data is two bytes for
each dispenser (R5, R7, R17). The bytes of a report that the spec does not lay out are a free value, and the widths in the
replies of AUTHORIZE, CAL CLOSE and READSTATS are the model's reading (Log 18). -/
def Obligations.AReplySentEmptiesTheBuffer : Prop :=
  (∀ (s : State) (q : Request) (r : Reply), s.link.buffer = some q →
    (q.phase = .replying r → s.link.note = none → ¬(r.kind = 0x85 ∧ r.result = .ok) →
      exec .replySent s = .next { s with link := { s.link with buffer := none } }) ∧
    (q.phase = .replying r → s.link.note = none → r.kind = 0x85 → r.result = .ok → s.sup.resetAsked = .asked →
      exec .replySent s =
        .next { s with link := { s.link with buffer := none }, sup := { s.sup with resetAsked := .answered } }) ∧
    (∀ k g, q.phase = .replying r → s.link.note = some (k, g) → ¬(r.kind = 0x85 ∧ r.result = .ok) →
      exec .replySent s =
        .next { s with
          link := { s.link with
            buffer := some { q with
              phase := .busyReplying ⟨k ||| 0x80, g, .busy, s.link.notices.length, 0, .none⟩ } } }) ∧
    (q.phase = .busyReplying r →
      exec .replySent s = .next { s with link := { s.link with buffer := none, note := none } }) ∧
    (q.phase = .replying r ∨ q.phase = .busyReplying r → s.link.transmits = r.frame)) ∧
  (∀ r : Reply,
    let body := r.body
    let checked := beBytes 2 body.length ++ [r.kind, r.tag] ++ body
    r.frame = [0xA5] ++ checked ++ beBytes 2 (crc16 checked).toNat ∧
    body =
      [BitVec.ofNat 8 r.result.code, BitVec.ofNat 8 r.pending, BitVec.ofNat 8 r.detail] ++ r.data.body) ∧
  [ResultCode.ok, .busy, .unknownKind, .badLength, .badValue, .notNow, .refused, .notFound, .already, .nothing].map
    ResultCode.code = [0, 1, 2, 3, 4, 5, 6, 7, 8, 9] ∧
  ReplyData.body .none = [] ∧ (∀ bs, ReplyData.body (.bytes bs) = bs) ∧
  (∀ rs, ReplyData.body (.broadcast rs) =
    (rs.map fun x => [BitVec.ofNat 8 x.1.code, BitVec.ofNat 8 x.2]).flatten) ∧
  (∀ cs, ReplyData.body (.counters cs) = (cs.map (beBytes 2)).flatten)
/-- A request's row that finds another request in service is not executed: it is noted for BUSY where the note is empty, and
discarded and counted where it is full, and nothing beyond the link changes (R4). A request whose frame fails a check of R3
is answered by the Link Controller with that check's answer and goes no further; in START_UP every request other than
STATUS is answered NOT_NOW, STARTING (R3). -/
def Obligations.RequestsAreTurnedAwayByTheLink : Prop :=
  (∀ (i : Instr) (k g : Byte) (body : List Byte) (s : State) (q : Request),
    requestOf i = some (k, g, body) → s.link.buffer = some q → q ≠ ⟨k, g, body, .waiting⟩ →
    (s.link.note = none →
      exec i s = .next (s.superviseFrame.modLink fun l => { l with note := some (k, g) })) ∧
    (s.link.note ≠ none →
      exec i s = .next (s.superviseFrame.modLink fun l => { l with overrun := min 65535 (l.overrun + 1) }))) ∧
  (∀ (i : Instr) (k g : Byte) (body : List Byte) (s : State),
    requestOf i = some (k, g, body) → s.link.buffer = none →
    (∀ a, s.superviseFrame.frameCheck k body = some a →
      exec i s = .next ((s.superviseFrame.holdRequest k g body .waiting).sendReply a)) ∧
    (s.startingUp = true → k ≠ 0x01 →
      exec i s = .next ((s.superviseFrame.holdRequest k g body .waiting).sendReply ⟨.notNow, 2, .none⟩)))

/-- The first field out of its range is answered BAD_VALUE with its index: LINKSET, RESET, ACTSET with its enable range of
1 alone for ESD, REFILL, CAL WRITE, TARIFF WRITE, READSTATS, the requests that name a dispenser or a bank, and AUTHORIZE,
whose vehicle fields are examined where the selection uses them (R3, R6, R12, R16, R153, R163, R185, section 1.8). CFGREAD
and CFGWRITE (R188): a group, an index or an item out of range, an item that entry 0 of the class table does not hold
(R96), and a value outside its item's range (R35, R37, R77, R95, R107, R139, R153). -/
def Obligations.FieldsOutOfRangeAreNamed : Prop :=
  ∀ (s : State) (g a b : Byte), s.link.buffer = none → s.startingUp = false →
    let bad (k : Byte) (body : List Byte) (n : Nat) :=
      Host.Outcome.next (φ := Fault) (ρ := Refusal)
        ((s.superviseFrame.holdRequest k g body .waiting).sendReply ⟨.badValue, n, .none⟩)
    (1 < b.toNat → exec (.linkset g a b) s = bad 0x04 [a, b] 2) ∧
    (1 < a.toNat → exec (.reset g a) s = bad 0x05 [a] 1) ∧
    (a = 0 ∨ 6 < a.toNat → exec (.actset g a b) s = bad 0x07 [a, b] 1) ∧
    (1 ≤ a.toNat → a.toNat ≤ 6 → 1 < b.toNat ∨ (a = 1 ∧ b = 0) → exec (.actset g a b) s = bad 0x07 [a, b] 2) ∧
    (a = 0 ∨ 4 < a.toNat → exec (.refill g a b) s = bad 0x30 [a, b] 1) ∧
    (1 ≤ a.toNat → a.toNat ≤ 4 → 3 < b.toNat → exec (.refill g a b) s = bad 0x30 [a, b] 2) ∧
    (∀ h : Half, 1 ≤ a.toNat → a.toNat ≤ 4 → h.toNat < 1000 ∨ 60000 < h.toNat →
      exec (.calWrite g a h) s = bad 0x51 ([a] ++ half2 h) 2) ∧
    (∀ v w : Word, 7 < a.toNat → exec (.tariffWrite g a v w) s = bad 0x13 ([a] ++ word4 v ++ word4 w) 1) ∧
    (∀ v w : Word, a.toNat ≤ 7 → 999999 < v.toNat →
      exec (.tariffWrite g a v w) s = bad 0x13 ([a] ++ word4 v ++ word4 w) 2) ∧
    (∀ v w : Word, a.toNat ≤ 7 → v.toNat ≤ 999999 → 999999 < w.toNat →
      exec (.tariffWrite g a v w) s = bad 0x13 ([a] ++ word4 v ++ word4 w) 3) ∧
    (2 < a.toNat → exec (.readstats g a b) s = bad 0x60 [a, b] 1) ∧
    (a = 0 → b ≠ 0 → exec (.readstats g a b) s = bad 0x60 [a, b] 2) ∧
    (1 ≤ a.toNat → a.toNat ≤ 2 → b = 0 ∨ 4 < b.toNat → exec (.readstats g a b) s = bad 0x60 [a, b] 2) ∧
    (4 < a.toNat →
      exec (.stop g a) s = bad 0x22 [a] 1 ∧ exec (.openDispenser g a) s = bad 0x23 [a] 1 ∧
      exec (.closeDispenser g a) s = bad 0x24 [a] 1 ∧ exec (.readdisp g a) s = bad 0x26 [a] 1) ∧
    (a = 0 ∨ 4 < a.toNat →
      exec (.cancel g a) s = bad 0x21 [a] 1 ∧ exec (.clear g a) s = bad 0x25 [a] 1 ∧
      exec (.isolate g a) s = bad 0x31 [a] 1 ∧ exec (.restore g a) s = bad 0x32 [a] 1 ∧
      exec (.readbank g a) s = bad 0x35 [a] 1 ∧
      ∀ h : Half, exec (.calWrite g a h) s = bad 0x51 ([a] ++ half2 h) 1) ∧
    (∀ x : AuthorizeBody,
      let limit := x.limitValue.toNat
      let classUsed := x.selection = 0 ∨ (x.selection = 2 ∧ x.fallbackKind = 0)
      let userUsed := x.selection = 1 ∨ (x.selection = 2 ∧ x.fallbackKind = 1)
      let first : Option Nat :=
        if x.disp = 0 ∨ 4 < x.disp.toNat then some 1
        else if 7 < x.tariff.toNat then some 2
        else if 2 < x.limitKind.toNat then some 3
        else if (x.limitKind = 0 ∧ limit ≠ 0) ∨ (x.limitKind = 1 ∧ (limit = 0 ∨ 99999999 < limit)) ∨
            (x.limitKind = 2 ∧ (limit = 0 ∨ 100000 < limit)) then some 4
        else if 2 < x.selection.toNat then some 5
        else if classUsed ∧ 15 < x.classNo.toNat then some 6
        else if x.selection = 2 ∧ 1 < x.fallbackKind.toNat then some 7
        else if userUsed ∧ (x.capacity.toNat < 100 ∨ 60000 < x.capacity.toNat) then some 9
        else if userUsed ∧ (x.factor.toNat < 25 ∨ 100 < x.factor.toNat) then some 10
        else none
      (∀ n, first = some n → exec (.authorize g x) s = bad 0x20 (AuthorizeBody.bytes x) n) ∧
      (first = none → s.frameCheck 0x20 (AuthorizeBody.bytes x) = none)) ∧
    (∀ (c : Byte) (v : Word),
      let noIndex :=
        ((a = 1 ∨ a = 4) ∧ b ≠ 0) ∨ ((a = 2 ∨ a = 3) ∧ (b = 0 ∨ 4 < b.toNat)) ∨ (a = 5 ∧ (b = 0 ∨ 7 < b.toNat)) ∨
          (a = 6 ∧ 15 < b.toNat) ∨ (a = 7 ∧ 7 < b.toNat)
      let items : Nat := ([23, 7, 3, 14, 3, 8, 2] : List Nat).getD (a.toNat - 1) 0
      let first : Option Nat :=
        if a = 0 ∨ 7 < a.toNat then some 1 else if noIndex then some 2
        else if c = 0 ∨ items < c.toNat then some 3 else none
      let value : Int := v.toInt
      let inRange : Prop :=
        if a = 5 ∧ c = 1 then (if b.toNat ≤ 3 then 60 else 30) ≤ value ∧ value ≤ 1000
        else if a = 6 ∧ c = 4 then value = 0 ∨ value = 4 ∨ value = 8
        else if a = 6 ∧ c = 7 then value = 0 ∨ (5000 ≤ value ∧ value ≤ 87500)
        else if a = 6 ∧ c = 8 then value = 0 ∨ (80 ≤ value ∧ value ≤ 100)
        else if a = 3 ∧ c = 2 then
          ∃ bs : List Four, bs ≠ [] ∧ bs.Nodup ∧ word4 v = bs.map Four.field ++ List.replicate (4 - bs.length) 0
        else ∀ low high, (a.toNat, c.toNat, low, high) ∈ itemRanges → low ≤ value ∧ value ≤ high
      let body := [a, b, c] ++ word4 v
      (∀ n, first = some n →
        exec (.cfgread g a b c) s = bad 0x11 [a, b, c] n ∧ exec (.cfgwrite g a b c v) s = bad 0x10 body n) ∧
      (first = none →
        s.frameCheck 0x11 [a, b, c] = none ∧
        (a = 6 → b = 0 → c.toNat ≤ 5 → exec (.cfgwrite g a b c v) s = bad 0x10 body 3) ∧
        (¬(a = 6 ∧ b = 0 ∧ c.toNat ≤ 5) →
          (¬inRange → exec (.cfgwrite g a b c v) s = bad 0x10 body 4) ∧
          (inRange → s.frameCheck 0x10 body = none))))

/-- NOTICE removes the oldest notice and returns its record, the LOST flag with the mark, which it clears; an empty queue
answers NONE and leaves the mark (R10). The second part says what posting does (R8). -/
def Obligations.NoticesArePostedAndReturned : Prop :=
  (∀ (s u : State) (g : Byte), s.Offers 0x02 g [] u →
    (∀ n rest, u.link.notices = n :: rest → ∃ t, exec (.notice g) s = .next t ∧
      t = { u with link := { u.link with notices := rest, lost := false, buffer := t.link.buffer } } ∧
      t.Replies 0x02 g [] ⟨.ok, 0, .bytes (n.record u.link.lost)⟩) ∧
    (u.link.notices = [] → ∃ t, exec (.notice g) s = .next t ∧
      t = { u with link := { u.link with buffer := t.link.buffer } } ∧
      t.Replies 0x02 g [] ⟨.nothing, 0, .none⟩)) ∧
  (∀ (l : Link) (k : NoticeKind) (c : Source) (n : Nat),
    (l.notices.length < 32 →
      l.post k c n = { l with notices := l.notices ++ [⟨k, c, n, l.clock, !l.clockSet⟩] }) ∧
    (l.notices.length = 32 →
      l.post k c n =
        { l with
          notices := l.notices.tail ++ [⟨k, c, n, l.clock, !l.clockSet⟩], lost := true,
          discarded := min 65535 (l.discarded + 1) }))

/-- CLOCK_TICK counts one second modulo 2^32; TIME sets the clock and moves the start history ring by the same number, so
that the age of every recorded start stands (R14, R62). LINKSET sets the working timeout and action; a timeout of 0 puts
supervision OFF, another starts it WATCHING at the full timeout (R12), and a CFGWRITE of the timeout does the same. -/
def Obligations.TheClockAndSupervisionAreSet : Prop :=
  ((∀ s : State, exec .clockTick s = .next { s with link := { s.link with clock := s.link.clock + 1 } }) ∧
  (∀ (s u : State) (g : Byte) (v : Word), s.Offers 0x03 g (word4 v) u →
    ∃ t, exec (.time g v) s = .next t ∧
      t = { u with
        link := { u.link with clock := v, clockSet := true, buffer := t.link.buffer },
        comp := { u.comp with ring := u.comp.ring.map (· + (v - u.link.clock)) } } ∧
      t.Replies 0x03 g (word4 v) ⟨.ok, 0, .none⟩ ∧
      t.comp.ring.map (startAge t.link.clock) = u.comp.ring.map (startAge u.link.clock))) ∧
  ((∀ (s u : State) (g a b : Byte), s.Offers 0x04 g [a, b] u → b.toNat ≤ 1 →
    ∃ t, exec (.linkset g a b) s = .next t ∧ t.Replies 0x04 g [a, b] ⟨.ok, 0, .none⟩ ∧
      t.sup = { u.sup with
        work := { u.sup.work with
          site := { u.sup.work.site with
            linkTimeout := a.toNat, linkAction := if b = 1 then .stop else .hold } } } ∧
      t.link = { u.link with
        supervision := if a = 0 then .off else .watching,
        supTimer := if a = 0 then none else some (a.toNat * 1000), buffer := t.link.buffer } ∧
      t = { u with link := t.link, sup := t.sup }) ∧
  (∀ (s u : State) (g : Byte) (v : Word), v.toNat ≤ 255 → s.Offers 0x10 g ([1, 0, 1] ++ word4 v) u →
    ∃ t, exec (.cfgwrite g 1 0 1 v) s = .next t ∧ t.Replies 0x10 g ([1, 0, 1] ++ word4 v) ⟨.ok, 0, .none⟩ ∧
      t.work.site.linkTimeout = v.toNat ∧
      t.link.supervision = (if v = 0 then .off else .watching) ∧
      t.link.supTimer = (if v = 0 then none else some (v.toNat * 1000))))

/-- LINK_TIMER_EXPIRY (R13, R110, R128): supervision enters LOST, LINK_TIMEOUT is posted with the action, and the action
reaches the dispensers, 1 to 4 in turn (the model's choice, Log 9). Under HOLD every dispenser in AUTHORIZED takes its
pre-start close with cause LINK_LOST and FILL_END, and every other is as it was; under STOP a running one also enters ENDING
with cause LINK_LOST. Where a bank is held, other dispensers' requests may be walked between the orders, so the second part
says what each order does where none is held. The timer expires where it has run out, and the row changes nothing
otherwise (Log 3): after a well-formed frame taken first the timer stands at the full
timeout and the expiry does not happen. -/
def Obligations.SilenceTakesTheLinkAction : Prop :=
  (∀ s : State, s.link.supervision ≠ .watching ∨ s.link.supTimer ≠ some 0 → exec .linkTimerExpiry s = .next s) ∧
  (∀ (f : Frame) (s t : State), f.body.length ≤ 250 → crcAgrees f → s.work.site.linkTimeout ≠ 0 →
    exec (.frameReceived f) s = .next t → exec .linkTimerExpiry t = .next t) ∧
  (∀ s : State, s.link.supervision = .watching → s.link.supTimer = some 0 →
    let stop := decide (s.work.site.linkAction = .stop)
    let u : State := { s with
      link := Link.post { s.link with supervision := .lost, supTimer := none } .linkTimeout .station stop.toNat }
    let called (d : Four) := decide ((s.disp d).state = .authorized)
    let order (t : State) (d : Four) : State :=
      if called d || (stop && (s.disp d).state.running) then t.endFill d .linkLost else t
    (stop = true →
      exec .linkTimerExpiry s =
        .next (u.take [.endCause .one .linkLost, .endCause .two .linkLost, .endCause .three .linkLost,
          .endCause .four .linkLost])) ∧
    (stop = false ∨ (∀ d, s.banks.grant.get d = none) → ∃ t, exec .linkTimerExpiry s = .next t ∧
      t = order (order (order (order u .one) .two) .three) .four ∧
      t.link = (Four.all.filter called).foldl (fun l d => l.post .fillEnd (.dispenser d) 20) u.link ∧
      t.link.supervision = .lost ∧ t.link.supTimer = none ∧
      (∀ d, (s.disp d).state = .authorized →
        (t.disp d).state = (if (s.disp d).closePending then .closed else .idle) ∧
        (t.disp d).captured = none ∧ (t.meterRec d).sale = none ∧
        ((s.log.ownEntry d).isSome = true → t.log.own.get d = none)) ∧
      (∀ d, stop = true → (s.disp d).state.running = true →
        (t.disp d).state = .ending ∧ ∀ f, (t.disp d).fill = some f → f.cause = some .linkLost) ∧
      (∀ d, (s.disp d).state ≠ .authorized → stop = false ∨ (s.disp d).state.running = false →
        t.disp d = s.disp d ∧ t.meterRec d = s.meterRec d)) ∧
    (stop = false → ∃ t, exec .linkTimerExpiry s = .next t ∧
      (∀ d n e, (s.disp d).state = .authorized → s.log.own.get d = some n → findEntry n s.log.ring = some e →
        findEntry n t.log.ring =
          some { e with
            cause := some .linkLost, state := .closed, endTime := s.link.clock,
            clockUnset := e.clockUnset || !s.link.clockSet }) ∧
      t.field = s.field ∧ t.banks = s.banks ∧ t.comp = s.comp ∧ t.precool = s.precool))

/-- The reading requests change nothing but the link: the owner's answer is sent, with the data that the rules name
(R15, R56, R93, R134, R163, R174, R188). CFGREAD of an item that the class table's entry 0 does not hold draws a free
value (Log 8). The reports carry the items that R15, R134, R56 and R93 list: that a remaining wait, the
time to a window's next check and the time on a dispenser's running timers are reported in whole seconds, rounded down, is the model's choice (Log 34), and so are the setpoint outside FUELLING, which is the PCV
output's, and the leak drop that an earlier leak check left (Log 36); the warm count of an empty reservation is Log
39's. -/
def Obligations.ReadingChangesNothing : Prop :=
  (∀ (s u : State) (g : Byte),
    (s.Offers 0x01 g [] u →
      exec (.status g) s = .next (u.sendReply ⟨.ok, 0, .status u.statusReport⟩)) ∧
    (∀ d, s.Offers 0x26 g [Four.field d] u →
      exec (.readdisp g (Four.field d)) s = .next (u.sendReply ⟨.ok, 0, .disp (u.dispReport d)⟩)) ∧
    (s.Offers 0x26 g [0] u →
      exec (.readdisp g 0) s =
        .next (u.sendReply ⟨.ok, 0, .broadcastReports
          [(.ok, 0, u.dispReport .one), (.ok, 0, u.dispReport .two), (.ok, 0, u.dispReport .three),
            (.ok, 0, u.dispReport .four)]⟩)) ∧
    (∀ b, s.Offers 0x35 g [Four.field b] u →
      exec (.readbank g (Four.field b)) s = .next (u.sendReply ⟨.ok, 0, .bank (u.bankReport b)⟩)) ∧
    (s.Offers 0x36 g [] u →
      exec (.readprecool g) s = .next (u.sendReply ⟨.ok, 0, .precool u.precoolReport⟩)) ∧
    (s.Offers 0x53 g [] u →
      exec (.calRead g) s =
        .next (u.sendReply ⟨.ok, 0, .cal
          ⟨u.meter.cal, u.sup.latches.metrology, (u.switch .sealIn).settled, u.meter.session⟩⟩)) ∧
    (s.Offers 0x40 g [] u →
      (∀ e, u.log.ring.find? (fun e => decide (e.state = .closed)) = some e →
        exec (.lognext g) s = .next (u.sendReply ⟨.ok, 0, .bytes e.record⟩)) ∧
      ((∀ e ∈ u.log.ring, e.state ≠ .closed) →
        exec (.lognext g) s = .next (u.sendReply ⟨.nothing, 0, .none⟩))) ∧
    (∀ n : Word, s.Offers 0x41 g (word4 n) u →
      (∀ e, findEntry n.toNat u.log.ring = some e →
        exec (.logget g n) s = .next (u.sendReply ⟨.ok, 0, .bytes e.record⟩)) ∧
      ((∀ e ∈ u.log.ring, e.number ≠ n.toNat) →
        exec (.logget g n) s = .next (u.sendReply ⟨.notFound, 0, .none⟩))) ∧
    (∀ a b c : Byte, s.Offers 0x11 g [a, b, c] u →
      (∀ n, itemBad a.toNat b.toNat c.toNat = some n →
        exec (.cfgread g a b c) s = .next (u.sendReply ⟨.badValue, n, .none⟩)) ∧
      (∀ v, itemBad a.toNat b.toNat c.toNat = none → readItem u.work a.toNat b.toNat c.toNat = some v →
        exec (.cfgread g a b c) s =
          .next (u.sendReply ⟨.ok, 0, .bytes (word4 (BitVec.ofInt 32 v))⟩)) ∧
      (itemBad a.toNat b.toNat c.toNat = none → readItem u.work a.toNat b.toNat c.toNat = none →
        exec (.cfgread g a b c) s =
          .next (State.sendReply { u with freeIx := u.freeIx + 1 }
            ⟨.ok, 0, .bytes (word4 (Config.entryZeroReads u.freeIx))⟩)))) ∧
  (∀ s : State,
    s.statusReport =
      { station := s.sup.station, clock := s.link.clock, clockUnset := !s.link.clockSet,
        latches :=
          [(s.sup.latches.esd, true), (s.sup.latches.gasAlarm, s.work.site.enGas),
            (s.sup.latches.valveStuckOpen, s.work.site.enValve), (s.sup.latches.bankOverpressure, s.work.site.enOver),
            (s.sup.latches.metrology, s.work.site.enMetro), (s.sup.latches.compressor, s.work.site.enComp)],
        configDefaulted := s.sup.configDefaulted, metrologyFault := s.sup.latches.metrology,
        calibrating := decide (s.meter.session ≠ .none),
        disps := [(s.disp .one).state, (s.disp .two).state, (s.disp .three).state, (s.disp .four).state],
        compressor := s.comp.state, deferred := s.comp.deferred, supplyLow := s.comp.supplyLow,
        disableCause := s.comp.disableCause, logCount := s.log.ring.length, supervision := s.link.supervision,
        linkTimeout := s.work.site.linkTimeout, linkAction := s.work.site.linkAction }) ∧
  (∀ (s : State) (d : Four),
    let p := s.disp d
    let m := s.meterRec d
    let left (t : Timer) : Option Nat := t.map fun ms => ms / 1000
    s.dispReport d =
      { state := p.state, closePending := p.closePending, holder := (s.switch (.holder d)).settled,
        waitBank := p.waitBank, overshoot := p.overshoot, vehicleHalt := p.vehicleHalt, lastCause := p.lastCause,
        entry := (s.log.ownEntry d).map (·.number), fill := p.fill, setpoint := s.field.pcv.get d,
        timers :=
          { auth := left p.timers.auth, pulse := left p.timers.pulse, settle := left p.timers.settle,
            leak := left p.timers.leak, ramp := left p.timers.ramp, fill := left p.timers.fill,
            overshoot := left p.timers.overshoot, halt := left p.timers.halt, ending := left p.timers.ending },
        primary := ((s.chan (.primary d)).value, (s.chan (.primary d)).state),
        secondary := ((s.chan (.secondary d)).value, (s.chan (.secondary d)).state),
        outlet := ((s.chan (.outlet d)).value, (s.chan (.outlet d)).state), mass := m.mass,
        amount := if m.final = none then m.sale.map fun c => amount m.mass c.price else none,
        billed :=
          match m.final with
          | some x => some x.billed
          | none => m.sale.map fun c => min (amount m.mass c.price) c.cap,
        overrun := m.final.map (·.overrun), flow := if p.state.filling then m.mass - m.flow.headD 0 else 0,
        mLim := m.sale.map (·.mLim), cap := m.sale.map (·.cap), ringCount := p.leakRing.length,
        ringLeast := p.leakRing.min?, ringLast := p.leakRing.getLast?, leakDrop := p.leakDrop }) ∧
  (∀ (s : State) (b : Four),
    let k := s.bank b
    let r := s.chan (.bank b)
    s.bankReport b =
      { config := s.bankCfg b, value := r.value, chan := r.state, age := r.age, state := k.state, low := k.low,
        isolatePending := k.isolatePending, refillFailed := k.refillFailed,
        waiters := k.waiters.map fun d => (d, (s.banks.wait.get d).getD 0 / 1000),
        window := k.window.map fun w => ⟨w.grantTime, w.pStart, w.check.getD 0 / 1000⟩, entry := s.refillEntry b,
        delivering := decide (s.comp.delivery = some b), totals := s.comp.totals.get b }) ∧
  (∀ s : State,
    let c := s.work.precool
    let p := s.precool
    let r := s.chan .precoolOutlet
    let held (d : Four) : Nat := (p.table.get d).elim 0 (·.reserved)
    s.precoolReport =
      { reserve := p.reserve, eMax := c.eMax, charge := p.charge, lowMark := p.lowMark, stage1 := p.stage1,
        stage2 := p.stage2, stagePower := c.stagePower, loss := c.loss, outlet := r.value, outletState := r.state,
        outletAge := r.age, grades := [c.a, c.b, c.c], cp := c.cp,
        table := [p.table.get .one, p.table.get .two, p.table.get .three, p.table.get .four],
        reservedTotal := held .one + held .two + held .three + held .four,
        waiting := p.waitList.map fun w => (w.request.disp, w.timer.getD 0 / 1000) })

/-- READSTATS returns the counters of the source it names and sets each of them to zero, and nothing else (R16, R106,
R135). -/
def Obligations.ReadstatsReturnsAndClears : Prop :=
  ∀ (s u : State) (g : Byte),
    (s.Offers 0x60 g [0, 0] u →
      exec (.readstats g 0 0) s =
        .next (State.sendReply { u with link := { u.link with framing := 0, overrun := 0, discarded := 0 } }
          ⟨.ok, 0, .counters [u.link.framing, u.link.overrun, u.link.discarded]⟩)) ∧
    (∀ d, s.Offers 0x60 g [1, Four.field d] u →
      exec (.readstats g 1 (Four.field d)) s =
        .next ((u.modDisp d fun p => { p with stats := ⟨0, 0, 0, 0, 0⟩ }).sendReply
          ⟨.ok, 0, .counters [(u.disp d).stats.complete, (u.disp d).stats.faults, (u.disp d).stats.leaks,
            (u.disp d).stats.downgrades, (u.disp d).stats.mismatches]⟩)) ∧
    (∀ d, s.Offers 0x60 g [2, Four.field d] u →
      exec (.readstats g 2 (Four.field d)) s =
        .next ((u.modReceiver d fun v =>
            { v with valid := 0, checkFailures := 0, rangeFailures := 0, fallbacks := 0 }).sendReply
          ⟨.ok, 0, .counters [(u.receiver d).valid, (u.receiver d).checkFailures, (u.receiver d).rangeFailures,
            (u.receiver d).fallbacks]⟩))

/-! ## Field channels, switches and valves -/

/-- ANALOG_SAMPLE (R18, R19): an in-range sample gives the clamped and converted value, age 0 and GOOD; another makes a
GOOD channel INVALID with its hold timer started and leaves the rest; a channel whose reference result is FAIL takes no
sample. The other channels are as they were. -/
def Obligations.ASampleSetsItsChannel : Prop :=
  ∀ (c : Channel) (current : Nat) (s : State),
    ((s.chan c).ref = .fail → exec (.analogSample c current) s = .next s) ∧
    ((s.chan c).ref ≠ .fail → ∃ t, exec (.analogSample c current) s = .next t ∧
      (3600 ≤ current → current ≤ 21000 →
        t.chan c =
          { s.chan c with
            value := some ((span c).1 +
              ((min 20000 (max 4000 current) - 4000 : Nat) : Int) * ((span c).2 - (span c).1) / 16000),
            age := 0, state := .good, hold := none }) ∧
      (current < 3600 ∨ 21000 < current →
        t.chan c =
          if (s.chan c).state = .good then { s.chan c with state := .invalid, hold := some (holdTime c) }
          else s.chan c) ∧
      ∀ e, e ≠ c → t.chan e = s.chan e)

/-- What in-range samples do beyond their channel (R19, R53, R60, R65, R70, R71, R115, R121): a running dispenser ends
OVERPRESSURE where the higher of its pressures, an absent one left out, is above its nozzle's threshold, and in FUELLING
ends COMPLETE at its target, else sets or clears OVERSHOOT; in LEAK_CHECK the value joins the ring of the last 64; a
bank below its refill threshold goes LOW, is posted and demanded, and one at its refill target loses LOW and
REFILL_FAILED, START_UP's stage S1 apart; a bank delivered into is done at its target, REFILL_DONE with its delivered
mass, and is given up and latched over its rated pressure × 102 / 100; the supply falls LOW below 1,500 kPa and recovers
at 2,000 kPa. The dual check (R23): with both channels GOOD, a difference over 1,500 kPa counts, to 10, and another
clears the count; at 10 the condition is set, which ends a running fill SENSOR, and at 0 it is cleared. That the
dispenser's tests come before the dual check, and OVERPRESSURE before COMPLETE, is the model's reading (Log 16). -/
def Obligations.SamplesReachTheirOwners : Prop :=
  ((∀ (c : Channel) (i : Nat) (s : State), (s.chan c).ref ≠ .fail → 3600 ≤ i → i ≤ 21000 →
    exec (.analogSample c i) s =
      .next ((s.setChan c
        { s.chan c with value := some (convert c i), age := 0, state := .good, hold := none }).handSample c)) ∧
  (∀ (s : State) (d : Four) (f : Fill) (p q : Nat), (s.disp d).state.running = true → (s.disp d).fill = some f →
    (s.chan (.primary d)).pressure = some p → (s.chan (.secondary d)).pressure = some q →
    let top := if f.nozzle = .hp then 88500 else 44750
    (top < max p q → s.handSample (.primary d) = (s.endFill d .overpressure).dualCheck d) ∧
    (∀ r, max p q ≤ top → (s.disp d).state = .fuelling → (s.chan (.primary d)).state = .good → f.ramp = some r →
      r.target ≤ p → s.handSample (.primary d) = (s.endFill d .complete).dualCheck d)) ∧
  (∀ (s : State) (b : Four) (p : Nat), s.sup.station ≠ .startUp .s1 → (s.chan (.bank b)).state = .good →
    (s.chan (.bank b)).pressure = some p → (s.bank b).low = false → p < (s.bankCfg b).refillOn →
    let u := (s.modBank b fun k => { k with low := true }).post .bankLow (.bank b) (p / 100)
    ((s.bank b).refillFailed = true ∨ (s.bank b).state = .isolated →
      s.handSample (.bank b) = u.compressorSample b) ∧
    ((s.bank b).refillFailed = false → (s.bank b).state ≠ .isolated →
      s.handSample (.bank b) = (u.autoDemand b).compressorSample b)) ∧
  (∀ (s : State) (p : Nat), (s.chan .supply).state ≠ .failed → (s.chan .supply).pressure = some p →
    (p < 1500 → s.comp.supplyLow = false →
      s.handSample .supply = (s.modComp fun c => { c with supplyLow := true }).unload) ∧
    (2000 ≤ p → s.comp.supplyLow = true →
      s.handSample .supply = (s.modComp fun c => { c with supplyLow := false }).evalStart) ∧
    (1500 ≤ p → p < 2000 → s.handSample .supply = s))) ∧
  (∀ (s : State) (d : Four) (f : Fill), (s.disp d).state.running = true → (s.disp d).fill = some f →
    let top := if f.nozzle = .hp then 88500 else 44750
    (∀ p, (s.chan (.primary d)).pressure = some p → (s.chan (.secondary d)).pressure = none → top < p →
      s.handSample (.primary d) = (s.endFill d .overpressure).dualCheck d) ∧
    (∀ q, (s.chan (.primary d)).pressure = none → (s.chan (.secondary d)).pressure = some q → top < q →
      s.handSample (.primary d) = (s.endFill d .overpressure).dualCheck d) ∧
    (∀ p, (s.chan (.primary d)).pressure = some p → (s.chan (.primary d)).state = .good →
      (∀ h, s.higherPressure d = some h → h ≤ top) →
      (∀ r, (s.disp d).state = .fuelling → f.ramp = some r → p < r.target →
        let pSet := min (r.base + r.k * r.rate) r.target
        ((s.disp d).overshoot = false → pSet + 5000 < p →
          s.handSample (.primary d) =
            (s.modDisp d fun x =>
              { x with overshoot := true, timers := { x.timers with overshoot := some 30000 } }).dualCheck d) ∧
        ((s.disp d).overshoot = true → p < pSet + 2500 →
          s.handSample (.primary d) =
            (s.modDisp d fun x =>
              { x with overshoot := false, timers := { x.timers with overshoot := none } }).dualCheck d)) ∧
      ((s.disp d).state = .leakCheck →
        s.handSample (.primary d) =
          (s.modDisp d fun x =>
            { x with leakRing := (x.leakRing ++ [p]).drop (x.leakRing.length + 1 - 64) }).dualCheck d))) ∧
  (∀ (s : State) (b : Four) (p : Nat) (e : RefillEntry), s.comp.delivery = some b →
    s.pBank b = some p → s.refillEntry b = some e →
    let u := s.endDelivery b
    ((s.comp.state = .running ∨ s.comp.state = .switching) → (s.bankCfg b).rated * 102 < p * 100 →
      s.compressorSample b =
        (((u.modComp (·.dropEntry b)).post .refillFailed (.bank b) 3).take
          [.isolate b, .latch .bankOverpressure (some b), .unload])) ∧
    (∀ e', s.comp.state = .running → p * 100 ≤ (s.bankCfg b).rated * 102 → e.target ≤ p →
      u.refillEntry b = some e' →
      s.compressorSample b =
        (((u.modComp fun c =>
          { c with
            queue := c.queue.filter fun x => decide (x.bank ≠ b),
            totals := c.totals.modify b fun t => { t with completed := min 65535 (t.completed + 1) } }).post
          .refillDone (.bank b) (min 65535 (e'.delivered / 10))).take [.choose .switching []]))) ∧
  (∀ (s : State) (d : Four) (p q : Nat),
    (s.chan (.primary d)).pressure = some p → (s.chan (.secondary d)).pressure = some q →
    (s.chan (.primary d)).state = .good → (s.chan (.secondary d)).state = .good →
    let checked (n : Nat) (on : Bool) : State := { s with
      field := { s.field with
        disagreeCount := s.field.disagreeCount.set d n, disagree := s.field.disagree.set d on } }
    let n := min 10 (s.field.disagreeCount.get d + 1)
    (p ≤ q + 1500 → q ≤ p + 1500 → s.dualCheck d = checked 0 false) ∧
    (q + 1500 < p ∨ p + 1500 < q →
      (n < 10 → s.dualCheck d = checked n (s.field.disagree.get d)) ∧
      (n = 10 → s.field.disagree.get d = false → (s.disp d).state.running = true →
        s.dualCheck d = (checked 10 true).endFill d .sensor) ∧
      (n = 10 → s.field.disagree.get d = true ∨ (s.disp d).state.running = false →
        s.dualCheck d = checked 10 true))) ∧
  (∀ (s : State) (d : Four),
    (s.chan (.primary d)).state ≠ .good ∨ (s.chan (.secondary d)).state ≠ .good → s.dualCheck d = s) ∧
  (∀ (s : State) (b : Four) (p : Nat), (s.chan (.bank b)).state = .good → (s.chan (.bank b)).pressure = some p →
    let k := s.bank b
    (s.sup.station = .startUp .s1 → s.handSample (.bank b) = s.compressorSample b) ∧
    (s.sup.station ≠ .startUp .s1 →
      (k.low = true → (s.bankCfg b).refillTarget ≤ p →
        s.handSample (.bank b) =
          (s.modBank b fun x => { x with low := false, refillFailed := false }).compressorSample b) ∧
      ((k.low = true ∧ p < (s.bankCfg b).refillTarget) ∨ (k.low = false ∧ (s.bankCfg b).refillOn ≤ p) →
        s.handSample (.bank b) = s.compressorSample b)))
/-- CHANNEL_HOLD_EXPIRY of an INVALID channel (R20): FAILED, CHANNEL_FAULT with kind 1 and the channel's number from the
channel's source, and then the hand-over to its consumers: a pressure channel of a dispenser ends a running fill, the gas
outlet channel a fill in FUELLING, with cause SENSOR (R125); a bank's channel demands a switch of the dispenser that draws
from the bank (R41), and a refill of it stalls with detail 2 (R66); the supply is judged as LOW (R70). -/
def Obligations.AHoldThatExpiresFailsTheChannel : Prop :=
  (∀ (c : Channel) (s : State), (s.chan c).state = .invalid → (s.chan c).hold.isSome = true →
    (∃ t, exec (.channelHoldExpiry c) s = .next t ∧
      t = settled (((s.setChan c { s.chan c with state := .failed, hold := none }).post .channelFault
        (channelSource c) (256 + channelNumber c)).handFailed c) ∧
      t.chan c = { s.chan c with state := .failed, hold := none }) ∧
    (c = .ambient ∨ c = .precoolOutlet →
      exec (.channelHoldExpiry c) s =
        .next ((s.setChan c { s.chan c with state := .failed, hold := none }).post .channelFault
          (channelSource c) (256 + channelNumber c)))) ∧
  (∀ (u : State) (d : Four),
    let sensor (on : Bool) : List Task := if on then [.endCause d .sensor] else []
    u.handFailed (.primary d) = (u, sensor (u.disp d).state.running) ∧
    u.handFailed (.secondary d) = (u, sensor (u.disp d).state.running) ∧
    u.handFailed (.outlet d) = (u, sensor (decide ((u.disp d).state = .fuelling)))) ∧
  (∀ (u : State) (b : Four),
    let delivering := (u.comp.state = .running ∨ u.comp.state = .switching) ∧ u.comp.delivery = some b
    (∀ d, ¬delivering → (u.bank b).state = .drawing d → u.handFailed (.bank b) = (u, [.switchDemand d])) ∧
    (¬delivering → (∀ d, (u.bank b).state ≠ .drawing d) → u.handFailed (.bank b) = (u, [])) ∧
    (delivering → (∀ d, (u.bank b).state ≠ .drawing d) →
      u.handFailed (.bank b) =
        ((((u.endDelivery b).modComp (·.dropEntry b)).modBank b fun k => { k with refillFailed := true }).post
          .refillFailed (.bank b) 2, [.choose .switching []]))) ∧
  (∀ u : State, (u.chan .supply).state = .failed →
    (u.comp.supplyLow = true → u.handFailed .supply = (u, [])) ∧
    (u.comp.supplyLow = false →
      u.handFailed .supply = ((u.modComp fun c => { c with supplyLow := true }).unload, [])))
/-- SWITCH_LEVEL_CHANGE on a switch input (R25), and DEBOUNCE_EXPIRY on an input whose settled change has no event (R25,
R26). That the same row carries a valve's feedback and the running feedback is the model's reading (Log 32). The initial
settling of the last of the fifteen inputs begins start-up (R26, R179): stage S1 loads the stored configuration, or the
factory one where its CRC disagrees, CONFIG_DEFAULTED set (R180), with the start history cut to N_s (R76) and the reserve
to E_max (R94); S2 checks the calibration record and latches METROLOGY_FAULT where it disagrees (R160); S3 takes the first
OPEN entry for recovery, or, with none, S4 begins the sweep (R177). -/
def Obligations.LevelsAreDebounced : Prop :=
  (∀ (s : State) (l : Level),
    (∀ w, exec (.switchLevelChange (.switch w) l) s = .next (s.setSwitch w ((s.switch w).change l))) ∧
    (∀ v, exec (.switchLevelChange (.feedback v) l) s =
      .next (s.setValve v { s.valve v with feedback := (s.valve v).feedback.change l })) ∧
    (exec (.switchLevelChange .running l) s =
      .next { s with field := { s.field with running := s.field.running.change l } }) ∧
    (∀ r : SwitchRec,
      (r.pin = l → r.change l = r) ∧
      (r.pin ≠ l → r.settled = some l → r.change l = { r with pin := l, timer := none }) ∧
      (r.pin ≠ l → r.settled ≠ some l → r.change l = { r with pin := l, candidate := l, timer := some 50 })) ∧
    (∀ w, (s.switch w).timer.isSome = true →
      (s.switch w).settled = none → s.sup.station ≠ .startUp .s1 →
      exec (.debounceExpiry w) s =
        .next (s.setSwitch w { s.switch w with settled := some (s.switch w).candidate, timer := none })) ∧
    (∀ w, (s.switch w).timer.isSome = true → (s.switch w).settled ≠ none →
      ((∃ d, w = .holder d) ∧ (s.switch w).candidate = .opened) ∨
        ((∃ d, w = .startButton d ∨ w = .stopButton d) ∧ (s.switch w).candidate = .opened) ∨
        ((w = .esd ∨ w = .gasAlarm) ∧ (s.switch w).candidate = .closed) →
      exec (.debounceExpiry w) s =
        .next (s.setSwitch w { s.switch w with settled := some (s.switch w).candidate, timer := none }))) ∧
  (∀ (s : State) (w : Switch), (s.switch w).timer.isSome = true → (s.switch w).settled = none →
    s.sup.station = .startUp .s1 →
    let u := s.setSwitch w { s.switch w with settled := some (s.switch w).candidate, timer := none }
    ((∃ x, x ≠ w ∧ (s.switch x).settled = none) → exec (.debounceExpiry w) s = .next u) ∧
    ((∀ x, x ≠ w → (s.switch x).settled ≠ none) → exec (.debounceExpiry w) s = .next u.beginStartUp)) ∧
  (∀ u : State,
    let store := u.sup.store
    let good := decide (crc16 (Config.storeImage store.image) = store.crc)
    let w := if good then store.image else factoryConfig
    let sound := u.meter.cal.agrees
    let s3 : State := { u with
      sup := { u.sup with
        work := w, configDefaulted := !good, station := .startUp .s3,
        latches := { u.sup.latches with metrology := u.sup.latches.metrology || !sound } },
      comp := { u.comp with ring := u.comp.ring.drop (u.comp.ring.length - w.site.startLimit) },
      precool := { u.precool with reserve := min u.precool.reserve w.precool.eMax },
      meter := { u.meter with damaged := u.meter.damaged || !sound } }
    (∀ e, firstOpen u.log.ring = some e →
      u.beginStartUp = { s3 with log := { s3.log with recovering := some (s3.recovered e) } }) ∧
    (firstOpen u.log.ring = none → ∃ t, u.beginStartUp = t ∧
      t = { s3 with
        link := t.link, log := t.log,
        sup := { s3.sup with station := .startUp .s4 },
        field := { s3.field with sweep := ⟨.channels, ⟨0, []⟩, ⟨0, []⟩, none⟩ } } ∧
      t.log.ring = u.log.ring ∧ t.log.recovering = none ∧
      t.log.nearFull = decide (56 ≤ u.log.ring.length) ∧ t.log.full = decide (64 ≤ u.log.ring.length)))
/-- The settled changes that have an event (R25, R112, R113, R127, R161, R183): START in AUTHORIZED with the nozzle out
and no sweep begins the connection; the STOP button and NOZZLE_IN hand their causes; NOZZLE_IN in ENDED returns to
service; the seal posts SEAL_CHANGE; an active ESD is latched and takes a READY station to SHUTDOWN, and so does an
active GAS_ALARM where its enable is 1; otherwise it is only latched. The entry to CONNECTING (R113): the authorization
timer stops, the fill record is created with its start time and nozzle type alone, the count and the mass are zeroed
(R149), a checkpoint is taken (R171), and then failed sensors end the fill or a bank is asked for. -/
def Obligations.SettledSwitchesGiveTheirEvents : Prop :=
  (∀ s : State,
    let settledAs (w : Switch) (l : Level) := s.setSwitch w { s.switch w with settled := some l, timer := none }
    let expiring (w : Switch) (l : Level) :=
      (s.switch w).timer.isSome = true ∧ (s.switch w).settled ≠ none ∧ (s.switch w).candidate = l
    (∀ d, expiring (.startButton d) .closed → (s.disp d).state = .authorized →
      (s.switch (.holder d)).settled = some .opened → s.sweepActive = false →
      exec (.debounceExpiry (.startButton d)) s =
        .next ((settledAs (.startButton d) .closed).enterConnecting d)) ∧
    (∀ d, expiring (.stopButton d) .closed →
      exec (.debounceExpiry (.stopButton d)) s =
        .next ((settledAs (.stopButton d) .closed).take [.endCause d .stopButton])) ∧
    (∀ d, expiring (.holder d) .closed → (s.disp d).state ≠ .ended →
      exec (.debounceExpiry (.holder d)) s =
        .next ((settledAs (.holder d) .closed).take [.endCause d .nozzleIn])) ∧
    (∀ d, expiring (.holder d) .closed → (s.disp d).state = .ended →
      exec (.debounceExpiry (.holder d)) s =
        .next ((settledAs (.holder d) .closed).modDisp d fun p =>
          { p with state := if p.closePending then .closed else .idle, closePending := false })) ∧
    (expiring .sealIn .opened →
      exec (.debounceExpiry .sealIn) s =
        .next ((settledAs .sealIn .opened).post .sealChange .station 2)) ∧
    (∀ staged, expiring .sealIn .closed → s.meter.session = .opened staged →
      exec (.debounceExpiry .sealIn) s =
        .next ((((settledAs .sealIn .closed).post .sealChange .station 1).modMeter fun m =>
            { m with session := .none }).post .calAbandoned .station
          (if staged = s.meter.cal.factors then 0 else 1))) ∧
    (expiring .esd .opened → ∃ t, exec (.debounceExpiry .esd) s = .next t ∧
      t.sup.latches.esd = true ∧ (s.sup.station = .ready → t.sup.station = .shutdown)) ∧
    (expiring .gasAlarm .opened → ∃ t, exec (.debounceExpiry .gasAlarm) s = .next t ∧
      t.sup.latches.gasAlarm = true ∧
      (s.sup.station = .ready → s.work.site.enGas = true → t.sup.station = .shutdown)) ∧
    (∀ w, w = .esd ∨ w = .gasAlarm → expiring w .opened →
      s.sup.station ≠ .ready ∨ (w = .gasAlarm ∧ s.work.site.enGas = false) →
      exec (.debounceExpiry w) s =
        .next { settledAs w .opened with
          sup := { s.sup with
            latches :=
              if w = .esd then { s.sup.latches with esd := true } else { s.sup.latches with gasAlarm := true } } })) ∧
  (∀ (s : State) (d : Four),
    let f : Fill :=
      { nozzle := (s.dispCfg d).nozzle, startTime := s.link.clock, startUnset := !s.link.clockSet,
        currentBank := none, usage := [], p0 := none, snapshot := none, least := none, ramp := none,
        admitted := none, downgrades := none, fallback := false, cause := none }
    let u := ((s.modDisp d fun p =>
        { p with state := .connecting .bank, fill := some f, timers := { p.timers with auth := none } }).modMeterRec
      d fun m => { m with pulses := 0, mass := 0, flow := List.replicate 10 0, final := none }).checkpoint d
    let failed := (s.chan (.primary d)).state = .failed ∨ (s.chan (.secondary d)).state = .failed ∨
      s.field.disagree.get d = true
    (failed → s.enterConnecting d = u.endFill d .sensor) ∧
    (¬failed → s.enterConnecting d = u.take [.walk d none]))
/-- A command to a valve (R27), VALVE_FEEDBACK_SETTLED and VALVE_TRAVEL_EXPIRY (R28, R29, R30). A valve's use begins with
the command to open it and ends with its arrival closed (R125), a reversal's arrival at once included, or with its fault
(the model's reading, Log 15); a valve travelling after a reset is not in use. A valve that becomes faulted is handed on
(R29): BV(b,d) in use and DV(d) end a running fill of d with cause VALVE (R125), before the latch of a valve stuck open is
taken (the model's reading, Log 40); CV(b) isolates bank b (R52); a valve stuck open is latched (R181). -/
def Obligations.ValvesTravelAndFault : Prop :=
  (∀ (r : ValveRec) (l : Level), r.state = .ok →
    r.command l =
      (if l = r.commanded then r
       else if r.feedback.settled = some l then
         { r with commanded := l, travel := none, inUse := decide (l = .opened) }
       else { r with commanded := l, travel := some 2000, inUse := if l = .opened then true else r.inUse }, false)) ∧
  (∀ (r : ValveRec) (l : Level), r.state ≠ .ok → r.command l = (r, decide (l = .opened))) ∧
  (∀ (v : Valve) (s : State), (s.valve v).feedback.timer.isSome = true →
    let r := s.valve v
    let r' := { r with feedback := { r.feedback with settled := some r.feedback.candidate, timer := none } }
    (r.state ≠ .ok → exec (.valveFeedbackSettled v) s = .next (s.setValve v r')) ∧
    (r.state = .ok → r.feedback.candidate = r.commanded →
      exec (.valveFeedbackSettled v) s =
        .next (s.setValve v { r' with travel := none, inUse := if r.commanded = .closed then false else r.inUse })) ∧
    (r.state = .ok → r.feedback.candidate ≠ r.commanded → r.travel.isSome = true →
      exec (.valveFeedbackSettled v) s = .next (s.setValve v r')) ∧
    (r.state = .ok → r.feedback.candidate ≠ r.commanded → r.travel = none → r.feedback.settled = none →
      exec (.valveFeedbackSettled v) s = .next (s.setValve v { r' with travel := some 2000 })) ∧
    (r.state = .ok → r.feedback.candidate ≠ r.commanded → r.travel = none → r.feedback.settled ≠ none →
      exec (.valveFeedbackSettled v) s =
        .next ((s.setValve v r').faultValve v
          (if r.feedback.candidate = .opened then .stuckOpen else .stuckClosed)))) ∧
  (∀ (v : Valve) (s : State), (s.valve v).state = .ok → (s.valve v).travel.isSome = true →
    exec (.valveTravelExpiry v) s =
      .next (s.faultValve v (if (s.valve v).commanded = .opened then .stuckClosed else .stuckOpen))) ∧
  (∀ (v : Valve) (s : State) (st : ValveState), st = .stuckOpen ∨ st = .stuckClosed →
    let t := (s.setValve v { s.valve v with commanded := .closed, travel := none, state := st, inUse := false }).post
      .valveFault (valveSource v) (256 * (if st = .stuckOpen then 1 else 2) + valveNumber v)
    s.faultValve v st = t.take (t.valveFaultTasks v (s.valve v) st)) ∧
  (∀ (s : State) (b d : Four) (was : ValveRec) (st : ValveState),
    let latch : List Task := if st = .stuckOpen then [.latch .valveStuckOpen none] else []
    (was.inUse = true → (s.disp d).state.running = true →
      s.valveFaultTasks (.bv b d) was st = .endCause d .valve :: latch) ∧
    (was.inUse = false ∨ (s.disp d).state.running = false → s.valveFaultTasks (.bv b d) was st = latch) ∧
    ((s.disp d).state.running = true → s.valveFaultTasks (.dv d) was st = .endCause d .valve :: latch) ∧
    ((s.disp d).state.running = false → s.valveFaultTasks (.dv d) was st = latch) ∧
    s.valveFaultTasks (.cv b) was st = .isolate b :: latch)
/-- COMPRESSOR_FEEDBACK_SETTLED and MISMATCH_TIMER_EXPIRY (R72): a disagreement starts the 2 s timer if it is not running,
an agreement stops it, and its expiry takes the compressor to FAULT, every CV commanded closed, COMPRESSOR_FAULT posted
and latched. -/
def Obligations.TheMotorIsWatched : Prop :=
  (∀ s : State, s.field.running.timer.isSome = true → s.comp.state ≠ .fault →
    ∃ t, exec .compressorFeedbackSettled s = .next t ∧
      t.field.running = { s.field.running with settled := some s.field.running.candidate, timer := none } ∧
      t.comp.mismatch =
        (if (s.field.running.candidate = .closed) = (s.comp.state.runOutput = true) then none
         else some (s.comp.mismatch.getD 2000)) ∧
      t = { s with
        field := { s.field with running := t.field.running }, comp := { s.comp with mismatch := t.comp.mismatch } }) ∧
  (∀ s : State, s.comp.mismatch.isSome = true → ∃ t, exec .mismatchTimerExpiry s = .next t ∧
    t.sup.latches.compressor = true ∧
    (s.sup.station ≠ .ready ∨ s.work.site.enComp = false →
      t.comp.state = .fault ∧ t.comp.mismatch = none ∧ t.comp.timer = none ∧ t.comp.deferral = none ∧
      t.comp.deferred = false ∧ t.comp.delivery = none ∧ t.comp.disablePending = none ∧
      (s.link.notices.length < 32 →
        t.link.notices = s.link.notices ++
          [⟨.compressorFault, .compressor, if s.comp.state.runOutput then 2 else 1, s.link.clock,
            !s.link.clockSet⟩]) ∧
      ∀ b, (s.valve (.cv b)).state = .ok → (t.valve (.cv b)).commanded = .closed))

/-- REFERENCE_SWEEP_STEP (R32): the reads of a channel are gathered, and the fifth judges it: PASS where the references
read true and the channel reads agree, else FAIL and FAILED with CHANNEL_FAULT of kind 2, handed on as R20 gives; a channel
already FAILED with result FAIL is handed on and posts nothing. The end of converter A's list begins the valve part (R33):
every on/off valve is commanded CLOSED and 2.0 s are waited, in start-up as stage S5 (R179). -/
def Obligations.TheSweepJudgesChannels : Prop :=
  (∀ (c : Converter) (i : Nat) (s : State) (ch : Channel), s.field.sweep.phase = .channels →
    (sweepChannels c)[(s.field.sweep.conv c).pos]? = some ch →
    let p := s.field.sweep.conv c
    let next := s.setConv c ⟨p.pos + 1, []⟩
    let failed := (next.setChan ch { s.chan ch with ref := .fail, state := .failed, hold := none }).post .channelFault
      (channelSource ch) (512 + channelNumber ch)
    let goOn (t : State) := if c = .a ∧ p.pos = 11 then t.beginValvePart else t
    (p.reads.length < 4 →
      exec (.referenceSweepStep c i) s = .next (s.setConv c { p with reads := p.reads ++ [i] })) ∧
    (p.reads.length = 4 →
      (sweepPasses (p.reads ++ [i]) = true →
        exec (.referenceSweepStep c i) s = .next (goOn (next.setChan ch { s.chan ch with ref := .pass }))) ∧
      (sweepPasses (p.reads ++ [i]) = false → ¬((s.chan ch).state = .failed ∧ (s.chan ch).ref = .fail) →
        exec (.referenceSweepStep c i) s = .next (goOn (settled (failed.handFailed ch))) ∧
        (settled (failed.handFailed ch)).chan ch =
          { s.chan ch with ref := .fail, state := .failed, hold := none }) ∧
      (sweepPasses (p.reads ++ [i]) = false → (s.chan ch).state = .failed → (s.chan ch).ref = .fail →
        exec (.referenceSweepStep c i) s = .next (goOn (settled (next.handFailed ch)))))) ∧
  (∀ (c : Converter) (i : Nat) (s : State),
    s.field.sweep.phase ≠ .channels ∨ (sweepChannels c)[(s.field.sweep.conv c).pos]? = none →
    exec (.referenceSweepStep c i) s = .next s) ∧
  (∀ s : State, ∃ t, s.beginValvePart = t ∧
    (∀ v, t.valve v = ((s.valve v).command .closed).1) ∧
    t.sup.station = (if s.sup.station = .startUp .s4 then .startUp .s5 else s.sup.station) ∧
    t = { s with
      sup := { s.sup with station := t.sup.station },
      field := { s.field with
        valves := t.field.valves, sweep := { s.field.sweep with phase := .valves, wait := some 2000 } } }) ∧
  (∀ r1 low r2 high r3 : Nat,
    sweepPasses [r1, low, r2, high, r3] = true ↔
      (3920 ≤ low ∧ low ≤ 4080 ∧ 19920 ≤ high ∧ high ≤ 20080 ∧ r1 ≤ r2 + 160 ∧ r2 ≤ r1 + 160 ∧
        r1 ≤ r3 + 160 ∧ r3 ≤ r1 + 160 ∧ r2 ≤ r3 + 160 ∧ r3 ≤ r2 + 160))
/-- SWEEP_VALVE_WAIT_EXPIRY (R33): every valve is read, in the order of its number (the model's choice, Log 37), the
sweep is over, and outside start-up the start conditions are evaluated (R61). A feedback CLOSED makes a valve OK,
whatever it was; a feedback OPEN makes it STUCK_OPEN unless it is so already; that one still unsettled leaves its valve
as it is is the model's reading (Log 21). With every feedback CLOSED nothing is posted. In stage S5 the end takes up S6
(R179): the dispensers configured to open become IDLE, START_UP_DONE is posted with the reset kind and the bits of
CONFIG_DEFAULTED and METROLOGY_FAULT, an active ESD or GAS_ALARM is latched, and the station enters SHUTDOWN for the
lowest latched cause that is enabled, or READY with its start conditions evaluated; supervision starts (R11). SELFTEST
(R34): taken with no fill, a compressor at rest and no sweep; else its reason, FILLING before COMPRESSOR, and STATE
first where a sweep is running (the model's order, Log 17). -/
def Obligations.TheSweepBeginsAndEnds : Prop :=
  (∀ s : State, s.field.sweep.phase = .valves → s.field.sweep.wait.isSome = true →
    let reads := allValves.foldl (fun t v => t.readValve v) s
    let ended : State := { reads with field := { reads.field with sweep := ⟨.idle, ⟨0, []⟩, ⟨0, []⟩, none⟩ } }
    exec .sweepValveWaitExpiry s =
      .next (if s.sup.station = .startUp .s5 then ended.finishStartUp else ended.evalStart) ∧
    ((∀ v, (s.valve v).feedback.settled = some .closed) →
      (∀ v, ended.valve v = { s.valve v with state := .ok }) ∧ ended.sweepActive = false ∧
      ended = { s with field := { s.field with valves := ended.field.valves, sweep := ended.field.sweep } })) ∧
  (∀ (s : State) (v : Valve),
    ((s.valve v).feedback.settled = some .closed →
      s.readValve v = s.setValve v { s.valve v with state := .ok }) ∧
    ((s.valve v).feedback.settled = some .opened → (s.valve v).state ≠ .stuckOpen →
      s.readValve v = s.faultValve v .stuckOpen) ∧
    ((s.valve v).feedback.settled = some .opened → (s.valve v).state = .stuckOpen → s.readValve v = s) ∧
    ((s.valve v).feedback.settled = none → s.readValve v = s)) ∧
  (∀ u : State, ∃ o : State,
    (∀ d, o.disp d = if (u.dispCfg d).openAtStart then { u.disp d with state := .idle } else u.disp d) ∧
    o = { u with disps := o.disps } ∧
    let kind := match u.sup.resetKind with | .powerOn => 1 | .resetLine => 2 | .station => 3
    let done : State := { o with
      sup := { u.sup with
        station := .startUp .s6,
        latches := { u.sup.latches with
          esd := u.sup.latches.esd || decide ((u.switch .esd).settled = some .opened),
          gasAlarm := u.sup.latches.gasAlarm || decide ((u.switch .gasAlarm).settled = some .opened) } },
      link := u.link.post .startUpDone .station
        (256 * kind + (u.sup.configDefaulted.toNat + 2 * u.sup.latches.metrology.toNat)) }
    ((∀ c, done.sup.latches.get c = true → SiteCfg.enabled u.work.site c = false) →
      u.finishStartUp =
        (State.restartSupervision { done with sup := { done.sup with station := .ready } }).evalStart) ∧
    (∀ c, done.sup.latches.get c = true → SiteCfg.enabled u.work.site c = true →
      (∀ k, done.sup.latches.get k = true → SiteCfg.enabled u.work.site k = true → c.code ≤ k.code) →
      u.finishStartUp = (done.take [.shutdown c]).restartSupervision)) ∧
  (∀ (s u : State) (g : Byte), s.Offers 0x08 g [] u →
    (u.sweepActive = true → exec (.selftest g) s = .next (u.sendReply ⟨.notNow, 1, .none⟩)) ∧
    (u.sweepActive = false → u.anyFilling = true →
      exec (.selftest g) s = .next (u.sendReply ⟨.notNow, 4, .none⟩)) ∧
    (u.sweepActive = false → u.anyFilling = false →
      u.comp.state ≠ .idle → u.comp.state ≠ .rest → u.comp.state ≠ .disabled →
      exec (.selftest g) s = .next (u.sendReply ⟨.notNow, 5, .none⟩)) ∧
    (u.sweepActive = false → u.anyFilling = false →
      u.comp.state = .idle ∨ u.comp.state = .rest ∨ u.comp.state = .disabled →
      exec (.selftest g) s =
        .next (State.sendReply
          { u with field := { u.field with sweep := ⟨.channels, ⟨0, []⟩, ⟨0, []⟩, none⟩ } } ⟨.ok, 0, .none⟩)))
/-! ## Banks -/

/-- A bank qualifies (R39) where it stands in the dispenser's order, beyond its position in rank, neither ISOLATED nor
ISOLATE_PENDING, its valve OK, and its usable pressure at P_min or more and ΔP_min or more over P_disp. The grant walk
(R42): the first qualifying bank of the cascade order that is free is granted; with none free, the first qualifying one
is waited for; with none qualifying, the answer is "none". After a bank wait expiry the bank waited on is passed over
and no busy bank is waited for (R48). A grant (R43): the bank is DRAWING d with its window open, position and usage list
follow in FUELLING, a refill of it is lost and a bank held before is released (R44), either of which may be told first
(Log 7). The grant is taken in FUELLING by opening BV(b,d) and DV(d), the old bank's valve first closed, WAIT_BANK
cleared and, at a handover, a checkpoint (R123); a faulted valve ends the fill with cause VALVE (R125). -/
def Obligations.TheGrantWalkTakesTheFirstFreeBank : Prop :=
  (∀ (s : State) (d : Four), (s.disp d).state.asksForBank = true →
    (∀ pre b post, (s.dispCfg d).cascade = pre ++ b :: post → s.qualifies d b = true →
      (s.bank b).state.free = true →
      (∀ c ∈ pre, s.qualifies d c = false ∨ (s.bank c).state.free = false) →
      s.walk d none = (s, [.grant d b])) ∧
    (∀ pre b post, (s.dispCfg d).cascade = pre ++ b :: post → s.qualifies d b = true →
      (∀ c ∈ (s.dispCfg d).cascade, s.qualifies d c = true → (s.bank c).state.free = false) →
      (∀ c ∈ pre, s.qualifies d c = false) →
      s.walk d none = (s.joinWaitList d b, [])) ∧
    ((∀ c ∈ (s.dispCfg d).cascade, s.qualifies d c = false) →
      s.walk d none = (s, [.endCause d (if (s.disp d).state = .fuelling then .supplyExhausted else .noSupply)]))) ∧
  (∀ (s : State) (d x : Four), (s.disp d).state.asksForBank = true →
    (∀ pre b post, (s.dispCfg d).cascade = pre ++ b :: post → s.qualifies d b = true → b ≠ x →
      (s.bank b).state.free = true →
      (∀ c ∈ pre, c = x ∨ s.qualifies d c = false ∨ (s.bank c).state.free = false) →
      s.walk d (some x) = (s, [.grant d b])) ∧
    ((∀ c ∈ (s.dispCfg d).cascade, c = x ∨ s.qualifies d c = false ∨ (s.bank c).state.free = false) →
      s.walk d (some x) = (s, [.endCause d (if (s.disp d).state = .fuelling then .supplyWait else .noSupply)]))) ∧
  (∀ (s : State) (d b : Four),
    let fuelling := (s.disp d).state = .fuelling
    let w : Window := ⟨d, s.link.clock, (s.pBank b).getD 0, (s.meterRec d).pulses, some 10000, 0⟩
    let t := s.recordGrant d b
    t.bank b = { s.bank b with state := .drawing d, window := some w } ∧ (∀ c, c ≠ b → t.bank c = s.bank c) ∧
    t.banks.grant = s.banks.grant.set d (some b) ∧ t.banks.lag = s.banks.lag.set d 0 ∧
    t.banks.wait = s.banks.wait.set d none ∧
    (fuelling → t.banks.position = s.banks.position.set d (some b) ∧
      (t.disp d).fill = (s.disp d).fill.map fun f => { f with usage := f.usage ++ [⟨b, 0⟩] }) ∧
    (¬fuelling → t.banks.position = s.banks.position ∧ t.disps = s.disps) ∧
    t = { s with banks := t.banks, disps := t.disps } ∧
    let u := t.evalStart
    ((s.bank b).state ≠ .refilling → s.banks.grant.get d = none → s.grant d b = (u, [.takeGrant d b none])) ∧
    ((s.bank b).state = .refilling → s.banks.grant.get d = none →
      s.grant d b = (u, [.lose b, .takeGrant d b none])) ∧
    (∀ old, (s.bank b).state ≠ .refilling → s.banks.grant.get d = some old →
      s.grant d b = (u, [.release old d, .takeGrant d b (some old)])) ∧
    (∀ old, (s.bank b).state = .refilling → s.banks.grant.get d = some old →
      s.grant d b =
        ({ u with freeIx := u.freeIx + 1 },
          if Config.lossToldFirst u.freeIx then [.lose b, .release old d, .takeGrant d b (some old)]
          else [.release old d, .lose b, .takeGrant d b (some old)]))) ∧
  (∀ (s : State) (d b : Four), (s.disp d).state = .fuelling → s.banks.grant.get d = some b →
    let opened (t : State) : State :=
      ((t.command (.bv b d) .opened).command (.dv d) .opened).modDisp d fun p =>
        { p with waitBank := false, fill := p.fill.map fun f => { f with currentBank := some b } }
    ((s.valve (.bv b d)).state = .ok → (s.valve (.dv d)).state = .ok →
      s.takeGrant d b none = (opened s, []) ∧
      ∀ old, s.takeGrant d b (some old) = ((opened (s.command (.bv old d) .closed)).checkpoint d, [])) ∧
    ((s.valve (.bv b d)).state ≠ .ok ∨
        ((s.valve (.dv d)).state ≠ .ok ∧ (s.valve (.dv d)).commanded = .closed) →
      ∀ old, (s.takeGrant d b old).2 = [.endCause d .valve])) ∧
  (∀ (s : State) (d b : Four), s.qualifies d b = true ↔
    b ∈ (s.dispCfg d).cascade ∧
    (∀ p, s.banks.position.get d = some p → (s.bankCfg p).rank < (s.bankCfg b).rank) ∧
    ((s.bank b).state ≠ .isolated ∧ (s.bank b).isolatePending = false) ∧
    (s.valve (.bv b d)).state = .ok ∧
    ∃ pb, (s.chan (.bank b)).state ≠ .failed ∧ (s.chan (.bank b)).pressure = some pb ∧ (s.bankCfg b).pMin ≤ pb ∧
      ∃ pd, (s.chan (.primary d)).pressure = some pd ∧ pd + s.work.site.dPMin ≤ pb)
/-- ISOLATE and RESTORE by the state of the bank (R49, R51); a REFILLING one is ISOLATED at once, the scheduler loses it
and its waiters are walked afresh. A release (R45): the window is closed, its grams complete the usage item, a second
failed window hands METER_MISMATCH (R159), which is taken before the bank is freed (the model's reading, Log 22), and
the grant ends; then a pending isolation is completed and the waiters walked afresh (R49), or the bank is READY and its
waiters served from the oldest (R47): each leaves its list and is granted the bank where it qualifies, or is walked
again and the next one taken, until none is left and the scheduler evaluates its start conditions. -/
def Obligations.BanksAreIsolatedAndRestored : Prop :=
  (∀ (s u : State) (g : Byte) (b : Four),
    (s.Offers 0x31 g [Four.field b] u →
      ((u.bank b).state = .ready → (u.bank b).waiters = [] → u.comp.state ≠ .idle →
        exec (.isolate g (Four.field b)) s =
          .next ((u.modBank b fun k => { k with state := .isolated }).sendReply ⟨.ok, 0, .none⟩)) ∧
      ((u.bank b).state = .isolated → exec (.isolate g (Four.field b)) s = .next (u.sendReply ⟨.ok, 0, .none⟩)) ∧
      ((u.bank b).state = .refilling →
        u.isolateBank b = (u.modBank b fun k => { k with state := .isolated }, [.lose b, .rewalk b])) ∧
      ((u.bank b).state = .ready →
        u.isolateBank b = ((u.modBank b fun k => { k with state := .isolated }).evalStart, [.rewalk b])) ∧
      (∀ d, (u.bank b).state = .drawing d → (u.bank b).isolatePending = true →
        exec (.isolate g (Four.field b)) s = .next (u.sendReply ⟨.ok, 0, .none⟩)) ∧
      (∀ d, (u.bank b).state = .drawing d → (u.bank b).isolatePending = false →
        u.isolateBank b = (u.modBank b fun k => { k with isolatePending := true }, [.switchDemand d, .rewalk b])) ∧
      exec (.isolate g (Four.field b)) s = .next ((u.take [.isolate b]).sendReply ⟨.ok, 0, .none⟩)) ∧
    (s.Offers 0x32 g [Four.field b] u →
      ((u.bank b).state ≠ .isolated →
        exec (.restore g (Four.field b)) s = .next (u.sendReply ⟨.ok, 0, .none⟩)) ∧
      ((u.bank b).state = .isolated → u.comp.state ≠ .idle →
        ((u.bank b).low = false ∨ (u.refillEntry b).isSome = true →
          exec (.restore g (Four.field b)) s =
            .next ((u.modBank b fun k => { k with state := .ready, refillFailed := false }).sendReply
              ⟨.ok, 0, .none⟩)) ∧
        ((u.bank b).low = true → u.refillEntry b = none →
          exec (.restore g (Four.field b)) s =
            .next (((u.modBank b fun k => { k with state := .ready, refillFailed := false }).modComp fun c =>
              { c with
                queue := c.queue ++ [⟨b, (u.bankCfg b).priority, (u.bankCfg b).refillTarget, .auto,
                  u.link.clock, 0, none⟩] }).sendReply ⟨.ok, 0, .none⟩))))) ∧
  (∀ (s : State) (b d : Four),
    let shut : State := { s with
      banks := { s.banks with
        recs := s.banks.recs.modify b fun k => { k with window := none },
        grant := if s.banks.grant.get d = some b then s.banks.grant.set d none else s.banks.grant } }
    (∀ w, (s.bank b).state = .drawing d → (s.bank b).window = some w →
      let m := ((s.meterRec w.disp).pulses - w.nGrant) * 1000 / s.meter.cal.factors.get w.disp
      s.release b d =
        (shut.modDisp d fun p =>
          { p with
            fill := p.fill.map fun f =>
              { f with
                usage := f.usage.map fun i => if i.bank = b then { i with grams := m } else i,
                currentBank := if f.currentBank = some b then none else f.currentBank } },
          mismatchTasks w (s.windowFailures b w) ++ [.freeBank b])) ∧
    ((s.bank b).state = .drawing d → (s.bank b).window = none → s.release b d = (shut, [.freeBank b])) ∧
    ((s.bank b).state ≠ .drawing d → s.release b d = (s, []))) ∧
  (∀ (s : State) (b : Four),
    ((s.bank b).isolatePending = true →
      s.freeBank b =
        ((s.modBank b fun k => { k with state := .isolated, isolatePending := false }).evalStart, [.rewalk b])) ∧
    ((s.bank b).isolatePending = false →
      s.freeBank b = (s.modBank b fun k => { k with state := .ready }, [.serve b]))) ∧
  (∀ (s : State) (b w : Four) (rest : List Four),
    let t := s.leaveWaitLists w
    ((s.bank b).waiters = w :: rest → (s.bank b).state = .ready ∨ (s.bank b).state = .refilling →
      (t.qualifies w b = true → s.serveWaiters b = (t, [.grant w b])) ∧
      (t.qualifies w b = false → s.serveWaiters b = (t, [.walk w none, .serve b]))) ∧
    ((s.bank b).waiters = w :: rest → s.rewalkWaiters b = (t, [.walk w none, .rewalk b])) ∧
    t.banks.wait = s.banks.wait.set w none ∧
    (∀ c, t.bank c = { s.bank c with waiters := (s.bank c).waiters.filter fun x => decide (x ≠ w) }) ∧
    t = { s with banks := { s.banks with recs := t.banks.recs, wait := t.banks.wait } }) ∧
  (∀ (s : State) (b : Four), (s.bank b).waiters = [] →
    s.rewalkWaiters b = (s, []) ∧
    ((s.bank b).state = .ready ∨ (s.bank b).state = .refilling → s.serveWaiters b = (s.evalStart, [])))
/-- BANK_WAIT_EXPIRY and DRAW_WINDOW_CHECK_EXPIRY (R48, R55, R158, R159): a waiter whose timer has run out leaves its list
and is walked again with that bank passed over, and one whose timer has stopped or runs afresh is left as it is (Log 3); a
window's check restarts its timer and leaves, clears or raises the failure count, and the
second failure hands METER_MISMATCH: the dispenser's OPEN entry takes DISPUTED with a checkpoint, and then the fill its
end cause; without an entry, the end cause alone. -/
def Obligations.BankTimersExpire : Prop :=
  (∀ (s : State) (d b : Four), s.waitingOn d = some b → s.banks.wait.get d = some 0 →
    exec (.bankWaitExpiry d) s = .next ((s.leaveWaitLists d).take [.walk d (some b)])) ∧
  (∀ (s : State) (d : Four), s.waitingOn d = none ∨ s.banks.wait.get d ≠ some 0 →
    exec (.bankWaitExpiry d) s = .next s) ∧
  (∀ (s : State) (b : Four) (w : Window), (s.bank b).window = some w → w.check.isSome = true →
    let met := ((s.meterRec w.disp).pulses - w.nGrant) * 1000 / s.meter.cal.factors.get w.disp
    let set (n : Nat) := s.modBank b fun k => { k with window := some { w with check := some 10000, failures := n } }
    ((met < 500 ∨ (s.chan (.bank b)).state ≠ .good) →
      exec (.drawWindowCheckExpiry b) s = .next ((set w.failures).take (mismatchTasks w w.failures))) ∧
    (∀ p, 500 ≤ met → (s.chan (.bank b)).state = .good → (s.chan (.bank b)).pressure = some p →
      let est := (w.pStart - p) * (s.bankCfg b).massFactor / 1000
      (met ≤ est + (15 * met / 100 + 100) ∧ est ≤ met + (15 * met / 100 + 100) →
        exec (.drawWindowCheckExpiry b) s = .next (set 0)) ∧
      (est + (15 * met / 100 + 100) < met ∨ met + (15 * met / 100 + 100) < est →
        w.failures = 0 → exec (.drawWindowCheckExpiry b) s = .next (set 1)) ∧
      (est + (15 * met / 100 + 100) < met ∨ met + (15 * met / 100 + 100) < est →
        w.failures = 1 → exec (.drawWindowCheckExpiry b) s = .next ((set 2).take [.mismatch w.disp])))) ∧
  (∀ (w : Window) (n : Nat), mismatchTasks w n = if n = 2 ∧ w.failures ≠ 2 then [.mismatch w.disp] else []) ∧
  (∀ (s : State) (d : Four),
    (∀ n e, s.log.own.get d = some n → findEntry n s.log.ring = some e →
      let disputed : State := { s with log := { s.log with
        ring := s.log.ring.map fun x => if x.number = n then { x with disputed := true } else x } }
      s.doTask (.mismatch d) = (disputed.checkpoint d, [.endCause d .meterMismatch])) ∧
    (s.log.ownEntry d = none → s.doTask (.mismatch d) = (s, [.endCause d .meterMismatch])))

/-! ## Compression -/

/-- REFILL (R59, R54): refused for an ISOLATED bank; else queued at the request's priority or its entry raised, its origin
STATION, REFILL_FAILED cleared, and the start conditions evaluated, which they are also where no priority is raised (the
model's choice, Log 35). -/
def Obligations.RefillQueuesABank : Prop :=
  ∀ (s u : State) (g p : Byte) (b : Four), p.toNat ≤ 3 → s.Offers 0x30 g [Four.field b, p] u →
    ((u.bank b).state = .isolated →
      exec (.refill g (Four.field b) p) s = .next (u.sendReply ⟨.notNow, 7, .none⟩)) ∧
    ((u.bank b).state ≠ .isolated → u.refillEntry b = none →
      exec (.refill g (Four.field b) p) s =
        .next ((((u.modComp fun c =>
          { c with
            queue := c.queue ++ [⟨b, p.toNat, (u.bankCfg b).refillTarget, .station, u.link.clock, 0, none⟩] }).modBank
          b fun k => { k with refillFailed := false }).evalStart).sendReply ⟨.ok, 0, .none⟩)) ∧
    (∀ e, (u.bank b).state ≠ .isolated → u.refillEntry b = some e →
      exec (.refill g (Four.field b) p) s =
        .next ((((u.modComp fun c =>
          { c with
            queue := c.queue.map fun e =>
              if e.bank = b then { e with priority := max e.priority p.toNat, origin := .station } else e }).modBank
          b fun k => { k with refillFailed := false }).evalStart).sendReply ⟨.ok, 0, .none⟩))

/-- COMPRESSOR OFF and COMPRESSOR ON by the compressor's state (R73; a mismatch timer of R72 runs on: the model's reading,
Log 38). The entry to SHUTDOWN (R184): STATION_SHUTDOWN is
posted with the cause, and every dispenser (1 to 4 in turn, Log 9) and then the compressor take the order: IDLE and REST are
disabled, UNLOADING and the working states, which unload, mark the disable pending, and one that a station's COMPRESSOR OFF
has left pending stays so; RESUME returns what the shutdown took (R74). -/
def Obligations.TheCompressorIsTakenOutOfServiceAndReturned : Prop :=
  (∀ (s u : State) (g : Byte),
    (s.Offers 0x34 g [] u →
      (u.comp.state = .idle ∨ u.comp.state = .rest →
        exec (.compressorOff g) s =
          .next ((u.modComp fun c =>
            { c with
              state := .disabled, disableCause := some .station, timer := none, deferral := none,
              deferred := false }).sendReply ⟨.ok, 0, .none⟩)) ∧
      (u.comp.state = .starting ∨ u.comp.state = .running ∨ u.comp.state = .switching →
        exec (.compressorOff g) s =
          .next ((u.modComp fun c =>
            { c with disablePending := some .station }).enterUnloading.sendReply ⟨.ok, 0, .none⟩)) ∧
      (u.comp.state = .unloading →
        exec (.compressorOff g) s =
          .next ((u.modComp fun c => { c with disablePending := some .station }).sendReply ⟨.ok, 0, .none⟩)) ∧
      (u.comp.state = .disabled →
        exec (.compressorOff g) s =
          .next ((u.modComp fun c => { c with disableCause := some .station }).sendReply ⟨.ok, 0, .none⟩)) ∧
      (u.comp.state = .fault → exec (.compressorOff g) s = .next (u.sendReply ⟨.ok, 0, .none⟩))) ∧
    (s.Offers 0x33 g [] u →
      (u.sup.station = .shutdown →
        exec (.compressorOn g) s = .next (u.sendReply ⟨.notNow, 1, .none⟩)) ∧
      (u.sup.station ≠ .shutdown → u.comp.state ≠ .disabled → u.comp.state ≠ .fault →
        exec (.compressorOn g) s =
          .next ((u.modComp fun c => { c with disablePending := none }).sendReply ⟨.ok, 0, .none⟩)) ∧
      (u.sup.station ≠ .shutdown → u.comp.state = .disabled ∨ u.comp.state = .fault → u.comp.sinceOff < 30000 →
        exec (.compressorOn g) s =
          .next (((u.modComp fun c =>
            { c with
              disableCause := none, state := .rest,
              timer := some (30000 - c.sinceOff) }).compareFeedback).sendReply ⟨.ok, 0, .none⟩)) ∧
      (u.sup.station ≠ .shutdown → u.comp.state = .disabled ∨ u.comp.state = .fault → 30000 ≤ u.comp.sinceOff →
        exec (.compressorOn g) s =
          .next (((u.modComp fun c =>
            { c with disableCause := none, state := .idle, timer := none }).compareFeedback.evalStart).sendReply
            ⟨.ok, 0, .none⟩)))) ∧
  (∀ (s : State) (c : FaultCause),
    s.shutdown c =
      ({ s with
        sup := { s.sup with station := .shutdown }, link := s.link.post .stationShutdown .station c.code },
        [.endCause .one .shutdown, .endCause .two .shutdown, .endCause .three .shutdown, .endCause .four .shutdown,
          .compShutdown])) ∧
  (∀ s : State,
    let pending : DisableCause := if s.comp.disablePending = some .station then .station else .shutdown
    (s.comp.state = .idle ∨ s.comp.state = .rest →
      s.compShutdown =
        s.modComp fun c =>
          { c with
            state := .disabled, disableCause := some .shutdown, timer := none, deferral := none,
            deferred := false }) ∧
    (s.comp.state = .starting ∨ s.comp.state = .running ∨ s.comp.state = .switching →
      s.compShutdown = (s.modComp fun c => { c with disablePending := some pending }).enterUnloading) ∧
    (s.comp.state = .unloading →
      s.compShutdown = s.modComp fun c => { c with disablePending := some pending }) ∧
    (s.comp.state = .disabled ∨ s.comp.state = .fault → s.compShutdown = s) ∧
    (s.comp.state = .disabled → s.comp.disableCause = some .shutdown → s.compResume = s.returnToService) ∧
    (s.comp.state = .disabled → s.comp.disableCause ≠ some .shutdown → s.compResume = s) ∧
    (s.comp.state = .unloading → s.comp.disablePending = some .shutdown →
      s.compResume = s.modComp fun c => { c with disablePending := none }) ∧
    (s.comp.state = .unloading → s.comp.disablePending ≠ some .shutdown → s.compResume = s) ∧
    (s.comp.state ≠ .disabled → s.comp.state ≠ .unloading → s.compResume = s))
/-- DEFERRAL_TIMER_EXPIRY and REST_TIMER_EXPIRY (R61, R62, R69): the start conditions are evaluated; where all hold the
compressor starts and the start is recorded, where only the ring does not allow it the start is deferred, and where
another fails START_DEFERRED is cleared. -/
def Obligations.StartConditionsDecideAStart : Prop :=
  (∀ s : State, s.comp.deferral.isSome = true →
    exec .deferralTimerExpiry s = .next (s.modComp fun c => { c with deferral := none }).evalStart) ∧
  (∀ s : State, s.comp.state = .rest → s.comp.timer.isSome = true →
    exec .restTimerExpiry s = .next (s.modComp fun c => { c with state := .idle, timer := none }).evalStart) ∧
  (∀ s : State, s.comp.state = .idle → (∀ e ∈ s.comp.queue, s.atTarget e = false) →
    let ready := s.sup.station = .ready ∧ s.sweepActive = false ∧ s.comp.supplyLow = false ∧
      (s.chosen []).isSome = true
    (ready → s.ringAllows = true →
      s.evalStart =
        (s.modComp fun c =>
          { c with
            state := .starting, timer := some 8000, deferred := false, deferral := none,
            ring := trimRing s.work.site.startLimit (c.ring ++ [s.link.clock]) }).compareFeedback) ∧
    (ready → s.ringAllows = false →
      s.evalStart =
        s.modComp fun c =>
          { c with
            deferred := true,
            deferral := some (s.comp.ring.head?.elim 0 fun t => (3600 - startAge s.link.clock t) * 1000) }) ∧
    (¬ready → s.evalStart = s.modComp fun c => { c with deferred := false, deferral := none })) ∧
  (∀ s : State, s.comp.state ≠ .idle → s.evalStart = s)

/-- SPIN_UP_EXPIRY and SWITCH_TIMER_EXPIRY (R60, R63, R64, R68): the chosen bank is claimed, its CV opened and delivery
begun; with nothing to choose the compressor unloads; the switch expiry begins the spell where the 2 s have run out, and
does not happen where a loss taken first has started the switch again (R67, Log 3). The choice (R60) takes the
entry of highest priority, the earliest queued of equals, whose bank is neither DRAWING nor ISOLATED, has a usable
pressure and is not left out. A choice in STARTING, or after a delivery has ended: a claim refused chooses again with
the bank left out, a faulted CV isolates the bank and then does the same, and a claim granted in RUNNING or SWITCHING
enters SWITCHING with its 2 s. The examination before a choice (R60) takes every eligible entry whose bank stands at or
above its target, in queue order: the entry leaves the queue, a completed refill is counted, and REFILL_DONE is posted
with the delivered mass in units of 10 g. -/
def Obligations.DeliveryBegins : Prop :=
  (∀ (s : State) (e : RefillEntry), s.atTarget e = true ↔
    (∀ d, (s.bank e.bank).state ≠ .drawing d) ∧ (s.bank e.bank).state ≠ .isolated ∧
      ∃ p, s.pBank e.bank = some p ∧ e.target ≤ p) ∧
  (∀ s : State,
    let finish (t : State) (e : RefillEntry) : State := { t with
      comp := { t.comp with
        queue := t.comp.queue.filter fun x => decide (x.bank ≠ e.bank),
        totals := t.comp.totals.modify e.bank fun x => { x with completed := min 65535 (x.completed + 1) } },
      link := t.link.post .refillDone (.bank e.bank) (min 65535 (e.delivered / 10)) }
    s.examine = (s.comp.queue.filter s.atTarget).foldl finish s ∧
    (∀ e ∈ s.examine.comp.queue, s.examine.atTarget e = false) ∧
    (∀ (at_ : ChoiceAt) (left : List Four),
      (at_ = .spinUp ∧ s.comp.state = .starting) ∨
        (at_ = .switching ∧ (s.comp.state = .running ∨ s.comp.state = .switching) ∧ s.comp.delivery = none) →
      s.choose at_ left = s.examine.choose at_ left)) ∧
  (∀ s : State, s.comp.state = .starting → s.comp.timer.isSome = true →
    exec .spinUpExpiry s = .next ((s.modComp fun c => { c with timer := none }).take [.choose .spinUp []])) ∧
  (∀ s : State, s.comp.state = .starting → s.comp.timer.isSome = true → (∀ e ∈ s.comp.queue, s.atTarget e = false) →
    (∀ e, s.chosen [] = some e → (s.bank e.bank).state = .ready → (s.valve (.cv e.bank)).state = .ok →
      ∃ t, exec .spinUpExpiry s = .next t ∧
        t.comp.state = .running ∧ t.comp.delivery = some e.bank ∧ t.comp.timer = some 120000 ∧
        t.comp.spell = some ⟨s.pBank e.bank⟩ ∧ (t.bank e.bank).state = .refilling ∧
        (t.valve (.cv e.bank)).commanded = .opened ∧
        (∀ x ∈ t.comp.queue, x.bank = e.bank → x.rise = s.pBank e.bank) ∧
        t.link = s.link ∧ t.disps = s.disps ∧ t.log = s.log) ∧
    (s.chosen [] = none →
      exec .spinUpExpiry s = .next ((s.modComp fun c => { c with timer := none }).enterUnloading))) ∧
  (∀ s : State, s.comp.state ≠ .switching ∨ s.comp.timer ≠ some 0 → exec .switchTimerExpiry s = .next s) ∧
  (∀ (s : State) (b : Four), s.comp.state = .switching → s.comp.delivery = some b → s.comp.timer = some 0 →
    exec .switchTimerExpiry s =
      .next { s with comp := { s.comp with
        state := .running, spell := some ⟨s.pBank b⟩, timer := some 120000,
        queue := s.comp.queue.map fun e => if e.bank = b then { e with rise := s.pBank b } else e } }) ∧
  (∀ (s : State) (left : List Four),
    let may (x : RefillEntry) : Prop :=
      (∀ d, (s.bank x.bank).state ≠ .drawing d) ∧ (s.bank x.bank).state ≠ .isolated ∧
        (s.pBank x.bank).isSome = true ∧ x.bank ∉ left
    (∀ pre e post, s.comp.queue = pre ++ e :: post → may e → (∀ x ∈ pre, may x → x.priority < e.priority) →
      (∀ x ∈ post, may x → x.priority ≤ e.priority) → s.chosen left = some e) ∧
    ((∀ x ∈ s.comp.queue, ¬may x) → s.chosen left = none)) ∧
  (∀ (s : State) (at_ : ChoiceAt) (left : List Four),
    (at_ = .spinUp ∧ s.comp.state = .starting) ∨
      (at_ = .switching ∧ (s.comp.state = .running ∨ s.comp.state = .switching) ∧ s.comp.delivery = none) →
    (∀ e ∈ s.comp.queue, s.atTarget e = false) →
    (s.chosen left = none → s.choose at_ left = (s.enterUnloading, [])) ∧
    (∀ e, s.chosen left = some e →
      ((s.bank e.bank).state ≠ .ready → s.choose at_ left = (s, [.choose at_ (e.bank :: left)])) ∧
      ((s.bank e.bank).state = .ready → (s.valve (.cv e.bank)).state ≠ .ok →
        s.choose at_ left = (s, [.isolate e.bank, .choose at_ (e.bank :: left)])) ∧
      ((s.bank e.bank).state = .ready → (s.valve (.cv e.bank)).state = .ok → at_ = .switching →
        ∃ t, s.choose at_ left = (t, []) ∧
          t.comp = { s.comp with state := .switching, delivery := some e.bank, timer := some 2000 } ∧
          (∀ v, t.valve v = if v = .cv e.bank then ((s.valve v).command .opened).1 else s.valve v) ∧
          (∀ b, t.bank b = if b = e.bank then { s.bank b with state := .refilling } else s.bank b) ∧
          t = { s with
            comp := t.comp, field := { s.field with valves := t.field.valves },
            banks := { s.banks with recs := t.banks.recs } })))

/-- PROGRESS_TIMER_EXPIRY (R66): a rise of 500 kPa or more moves the reference and restarts the timer; less is a stall,
with CV(b) closed, the entry gone, REFILL_FAILED set on the bank and posted with detail 1, and a choice. RUN_DOWN_EXPIRY
(R69): the run output goes off; a pending disable becomes the disable cause, and otherwise the 30 s of rest begin. A
delivery bank that is granted or isolated is lost, its entry kept, and another is chosen (R67). However a delivery ends,
CV(b) is commanded closed, a REFILLING bank is READY (R50), and the mass of the spell is added to the entry and to the
bank's delivered total (R75). At the entry to UNLOADING (R69) every CV is commanded closed, a delivery bank held is
given back, and the 6 s of run-down begin. -/
def Obligations.DeliveryIsCheckedAndRunDown : Prop :=
  (∀ (s : State) (b : Four), s.comp.state = .running → s.comp.delivery = some b → s.comp.timer.isSome = true →
    (∀ p r, s.pBank b = some p → (s.refillEntry b).bind (·.rise) = some r → r + 500 ≤ p →
      exec .progressTimerExpiry s =
        .next { s with comp := { s.comp with
          timer := some 120000,
          queue := s.comp.queue.map fun e => if e.bank = b then { e with rise := some p } else e } }) ∧
    (∀ p r, s.pBank b = some p → (s.refillEntry b).bind (·.rise) = some r → p < r + 500 →
      exec .progressTimerExpiry s =
        .next (((((s.endDelivery b).modComp (·.dropEntry b)).modBank b fun k =>
          { k with refillFailed := true }).post .refillFailed (.bank b) 1).take [.choose .switching []]))) ∧
  (∀ s : State, s.comp.state = .unloading → s.comp.timer.isSome = true →
    (∀ c, s.comp.disablePending = some c → ∃ t, exec .runDownExpiry s = .next t ∧
      t = { s with comp := { s.comp with
        state := .disabled, disableCause := some c, disablePending := none, timer := none, sinceOff := 0,
        mismatch := t.comp.mismatch } }) ∧
    (s.comp.disablePending = none → ∃ t, exec .runDownExpiry s = .next t ∧
      t = { s with comp := { s.comp with
        state := .rest, timer := some 30000, sinceOff := 0, mismatch := t.comp.mismatch } })) ∧
  (∀ (s : State) (b : Four),
    let delivering := (s.comp.state = .running ∨ s.comp.state = .switching) ∧ s.comp.delivery = some b
    (delivering → s.loseBank b = (s.endDelivery b, [.choose .switching []])) ∧
    (¬delivering → s.loseBank b = (s, []))) ∧
  (∀ (s : State) (b : Four), ∃ t, s.endDelivery b = t ∧
    (s.comp.spell = none →
      t.comp = { s.comp with
        queue := s.comp.queue.map fun e => if e.bank = b then { e with rise := none } else e,
        delivery := none, timer := none }) ∧
    (∀ sp, s.comp.spell = some sp →
      let m := match sp.start, (s.chan (.bank b)).pressure with
        | some p, some q => (q - p) * (s.bankCfg b).massFactor / 1000
        | _, _ => 0
      t.comp = { s.comp with
        queue := s.comp.queue.map fun e =>
          if e.bank = b then { e with delivered := e.delivered + m, rise := none } else e,
        totals := s.comp.totals.modify b fun x => { x with delivered := min 4294967295 (x.delivered + m) },
        delivery := none, spell := none, timer := none }) ∧
    t.valve (.cv b) = ((s.valve (.cv b)).command .closed).1 ∧
    (t.bank b).state = (if (s.bank b).state = .refilling then .ready else (s.bank b).state) ∧
    t = { s with comp := t.comp, field := t.field, banks := t.banks }) ∧
  (∀ s : State, ∃ t, s.enterUnloading = t ∧
    (∀ b, t.valve (.cv b) = ((s.valve (.cv b)).command .closed).1) ∧
    (∀ b d, t.valve (.bv b d) = s.valve (.bv b d) ∧ t.valve (.dv d) = s.valve (.dv d)) ∧
    (s.comp.delivery = none →
      t.comp = { s.comp with state := .unloading, timer := some 6000 } ∧ t.banks = s.banks) ∧
    (∀ b, s.comp.delivery = some b →
      t.comp = { (s.endDelivery b).comp with state := .unloading, timer := some 6000 } ∧
      t.banks = (s.endDelivery b).banks) ∧
    t = { s with comp := t.comp, field := { s.field with valves := t.field.valves }, banks := t.banks })
/-! ## Precooling and vehicle reports -/

/-- THERMAL_UPDATE (R78, R79, R86): the balance with its clamps, the low mark, the stages set from the new reserve, and
then the wait list head; with an empty wait list nothing else changes but the timer and, at an exhaustion, PRECOOL_LOW.
The head that passes the test leaves the list, holds its reservation and enters FUELLING, and the new head is tested; a
head that fails stays, and those behind it are not tested (R86). The entry to FUELLING (R119): the fill takes the grade
with its figures, base P0, k 0 and downgrade count 0, the setpoint in force is commanded, the ramp and fill timers
start, and a PENDING receiver is WATCHING: without a fresh report the fill falls back first, and HALT sets VEHICLE_HALT.
Then a FAILED gas outlet channel ends the fill SENSOR, or a bank is asked for and a checkpoint follows the answer. -/
def Obligations.TheReserveIsBalancedEachSecond : Prop :=
  (∀ s : State, ∃ t, exec .thermalUpdate s = .next t ∧
    let c := s.work.precool
    let r : Int :=
      (s.precool.reserve : Int) + (s.precool.stage1.toNat + s.precool.stage2.toNat) * c.stagePower - c.loss -
        s.precool.charge
    let e : Nat := if r ≤ 0 then 0 else if (c.eMax : Int) ≤ r then c.eMax else r.toNat
    t.precool.reserve = e ∧ t.precool.charge = 0 ∧
    (r ≤ 0 → t.precool.lowMark = true) ∧ (0 < e → t.precool.lowMark = false) ∧
    t.precool.stage1 =
      (if e * 100 < c.eMax * 95 then true else if e = c.eMax then false else s.precool.stage1) ∧
    t.precool.stage2 =
      (if e * 100 < c.eMax * 70 then true else if c.eMax * 85 ≤ e * 100 then false else s.precool.stage2) ∧
    (s.precool.waitList = [] →
      t.precool.table = s.precool.table ∧ t.precool.waitList = [] ∧ t.precool.thermal = some 1000 ∧
      t.link =
        (if r ≤ 0 ∧ s.precool.lowMark = false then
          s.link.post .precoolLow .precool (s.precool.table.toList.filter (·.isSome)).length
         else s.link) ∧
      t = { s with link := t.link, precool := t.precool })) ∧
  (∀ s : State, ∃ u : State, exec .thermalUpdate s = .next (u.take [.admitHead]) ∧
    u.precool.waitList = s.precool.waitList ∧ u.precool.table = s.precool.table ∧
    u = { s with link := u.link, precool := u.precool }) ∧
  (∀ s : State,
    (s.precool.waitList = [] → s.admitHead = (s, [])) ∧
    (∀ w rest, s.precool.waitList = w :: rest →
      (s.admissionTest w.request = none → s.admitHead = (s, [])) ∧
      (∀ g f, s.admissionTest w.request = some (g, f) →
        s.admitHead =
          (State.reserve { s with precool := { s.precool with waitList := rest } } w.request g f,
            [.enterFuelling w.request.disp g f, .admitHead])))) ∧
  (∀ (s : State) (d : Four) (g : Grade) (x : Figures) (f : Fill) (p0 : Nat),
    (s.disp d).state = .leakCheck ∨ (s.disp d).state = .waitPrecool → (s.disp d).fill = some f → f.p0 = some p0 →
    let limit := if f.nozzle = .hp then s.work.site.hpFillTime else s.work.site.mpFillTime
    let t := (s.modDisp d fun p =>
      { p with
        state := .fuelling,
        fill := some { f with
          ramp := some ⟨g, x.target, x.rate, x.expected, p0, 0, none⟩, admitted := some g, downgrades := some 0 },
        timers := { p.timers with leak := none, ramp := some 1000, fill := some (limit * 1000) } }).setPcv d
      (min p0 x.target)
    let fresh := if (s.receiver d).fresh.isSome ∧ (s.receiver d).age ≤ 20 then (s.receiver d).last else none
    let u := t.modReceiver d fun v => { v with watch := .watching }
    ((s.receiver d).watch ≠ .pending → s.enterFuelling d g x = (t, [.fuelRequest d])) ∧
    ((s.receiver d).watch = .pending →
      (fresh = none → s.enterFuelling d g x = (u, [.fallback d, .fuelRequest d])) ∧
      (∀ r, fresh = some r → r.command ≠ .halt ∨ (s.disp d).vehicleHalt = true →
        s.enterFuelling d g x = (u, [.fuelRequest d])) ∧
      (∀ r, fresh = some r → r.command = .halt → (s.disp d).vehicleHalt = false →
        s.enterFuelling d g x =
          (u.modDisp d fun p => { p with vehicleHalt := true, timers := { p.timers with halt := some 10000 } },
            [.fuelRequest d])))) ∧
  (∀ (s : State) (d : Four), (s.disp d).state = .fuelling →
    ((s.chan (.outlet d)).state = .failed → s.fuelRequest d = (s, [.endCause d .sensor])) ∧
    ((s.chan (.outlet d)).state ≠ .failed → s.fuelRequest d = (s, [.walk d none, .fuelCheckpoint d])) ∧
    s.doTask (.fuelCheckpoint d) = (s.checkpoint d, [])) ∧
  (∀ (s : State) (d : Four), (s.disp d).state ≠ .fuelling → s.fuelRequest d = (s, []))
/-- VEHICLE_REPORT_FRAME (R98, R99, R102): a frame whose check fails or that holds a field out of its range is counted and
changes nothing else; a valid one becomes the last report, fresh for 2 s, and in IDLE nothing more happens. A report is
14 bytes, its fields most significant byte first and T_rep in two's complement, and the valid report holds its fields. -/
def Obligations.ReportsAreCheckedAndKept : Prop :=
  ∀ (d : Four) (bs : List Byte) (s : State),
    (judgeReport bs = .checkFails → exec (.vehicleReportFrame d bs) s =
      .next (s.modReceiver d fun v => { v with checkFailures := min 65535 (v.checkFailures + 1) })) ∧
    (judgeReport bs = .outOfRange → exec (.vehicleReportFrame d bs) s =
      .next (s.modReceiver d fun v => { v with rangeFailures := min 65535 (v.rangeFailures + 1) })) ∧
    (∀ r, judgeReport bs = .valid r → (s.receiver d).watch = .idle → exec (.vehicleReportFrame d bs) s =
      .next (s.modReceiver d fun v =>
        { v with last := some r, age := 0, fresh := some 2000, valid := min 65535 (v.valid + 1) })) ∧
    (judgeReport bs = .checkFails ↔
      bs.length ≠ 14 ∨ (crc16 (bs.take 12)).toNat ≠ beValue ((bs.drop 12).take 2)) ∧
    (let field (i n : Nat) : Nat := beValue ((bs.drop i).take n)
     let sound := bs.length = 14 ∧ (crc16 (bs.take 12)).toNat = field 12 2
     let tRep : Int := if field 9 2 < 32768 then field 9 2 else field 9 2 - 65536
     let inRange := 1 ≤ field 3 2 ∧ field 3 2 ≤ 2000 ∧ field 5 4 ≤ 100000 ∧ -600 ≤ tRep ∧ tRep ≤ 1000 ∧ field 11 1 ≤ 2
     let read : Report :=
       ⟨field 0 3, field 3 2, field 5 4, tRep,
        if field 11 1 = 0 then .run else if field 11 1 = 1 then .halt else .abort⟩
     (judgeReport bs = .outOfRange ↔ sound ∧ ¬inRange) ∧
     (∀ r, judgeReport bs = .valid r ↔ sound ∧ inRange ∧ r = read))

/-- What a valid report does in a fill (R102, R103, R104, R148): ABORT and a hot tank end the fill in PENDING and in
WATCHING; in WATCHING the state of charge, three reports in a row that disagree with the dispenser, and HALT or RUN follow
in that order, and a report whose age reaches 20 goes stale and falls back (R99); a report taken first leaves no expiry to
happen. A fallback (R105): the receiver returns to IDLE and its fallbacks count, VEHICLE_HALT clears, the fill is FALLBACK
and NONCOMM and recomputes with SOC_nc at its grade, the new setpoint is commanded, and a pressure at the new target ends it
COMPLETE. A recomputation (R146, R147) gives the new target and rate, the base at the lesser of the old setpoint and the
new target, k at 0 and the remaining mass. -/
def Obligations.ReportsAreActedOnWhileWatched : Prop :=
  (∀ (d : Four) (bs : List Byte) (s : State) (r : Report), judgeReport bs = .valid r →
    let u := s.modReceiver d fun v =>
      { v with last := some r, age := 0, fresh := some 2000, valid := min 65535 (v.valid + 1) }
    let cold := r.command ≠ .abort ∧ r.tRep < 850
    ((s.receiver d).watch ≠ .idle → r.command = .abort →
      exec (.vehicleReportFrame d bs) s = .next (u.endFill d .vehicleAbort)) ∧
    ((s.receiver d).watch ≠ .idle → r.command ≠ .abort → 850 ≤ r.tRep →
      exec (.vehicleReportFrame d bs) s = .next (u.endFill d .tankHot)) ∧
    ((s.receiver d).watch = .pending → cold → exec (.vehicleReportFrame d bs) s = .next u) ∧
    (∀ f sn, (s.receiver d).watch = .watching → cold → (s.disp d).fill = some f → f.snapshot = some sn →
      let soc := r.pRep * 28815 * 100 / ((if f.nozzle = .hp then 70000 else 35000) * (27315 + 10 * r.tRep).toNat)
      (sn.vehicle.soc ≤ soc → exec (.vehicleReportFrame d bs) s = .next (u.endFill d .socReached)) ∧
      (∀ p, soc < sn.vehicle.soc → (s.chan (.primary d)).state = .good →
        (s.chan (.primary d)).pressure = some p →
        (r.pRep ≤ p + 5000 ∧ p ≤ r.pRep + 5000 → r.command = .run →
          exec (.vehicleReportFrame d bs) s =
            .next ((u.modReceiver d fun v => { v with disagree := 0 }).modDisp d fun q =>
              { q with vehicleHalt := false, timers := { q.timers with halt := none } })) ∧
        (r.pRep ≤ p + 5000 ∧ p ≤ r.pRep + 5000 → r.command = .halt → (s.disp d).vehicleHalt = false →
          exec (.vehicleReportFrame d bs) s =
            .next ((u.modReceiver d fun v => { v with disagree := 0 }).modDisp d fun q =>
              { q with vehicleHalt := true, timers := { q.timers with halt := some 10000 } })) ∧
        (p + 5000 < r.pRep ∨ r.pRep + 5000 < p → (s.receiver d).disagree = 2 →
          exec (.vehicleReportFrame d bs) s =
            .next ((u.modReceiver d fun v => { v with disagree := 3 }).take [.fallback d]))))) ∧
  (∀ (d : Four) (s : State),
    ((s.receiver d).fresh.isSome = true → 20 ≤ (s.receiver d).age →
      ((s.receiver d).watch ≠ .watching →
        exec (.freshnessTimerExpiry d) s = .next (s.modReceiver d fun v => { v with fresh := none })) ∧
      ((s.receiver d).watch = .watching →
        exec (.freshnessTimerExpiry d) s =
          .next ((s.modReceiver d fun v => { v with fresh := none }).take [.fallback d]))) ∧
    ((s.receiver d).fresh = none ∨ (s.receiver d).age < 20 → exec (.freshnessTimerExpiry d) s = .next s)) ∧
  (∀ (s : State) (d : Four) (f : Fill) (sn : Snapshot) (r : Ramp) (row : RampRow), (s.disp d).state = .fuelling →
    (s.disp d).fill = some f → f.snapshot = some sn → f.ramp = some r →
    (sn.ramp.find? fun x => decide (x.1 = r.grade)) = some (r.grade, row) →
    let target := sn.target f.nozzle sn.socNc row
    let base := min (min (r.base + r.k * r.rate) r.target) target
    let t : State := ((s.modReceiver d fun v =>
        { v with watch := .idle, disagree := 0, fallbacks := min 65535 (v.fallbacks + 1) }).modDisp d fun p =>
      { p with
        vehicleHalt := false, timers := { p.timers with halt := none },
        fill := some { f with
          fallback := true,
          ramp := some ⟨r.grade, target, sn.rate f.nozzle row, r.expected, base, 0,
            some (r.expected - (s.meterRec d).mass)⟩,
          snapshot := some { sn with vehicle := { sn.vehicle with soc := sn.socNc, comm := .noncomm } } } }).setPcv d
      base
    ((∀ p, (s.chan (.primary d)).state = .good → (s.chan (.primary d)).pressure = some p → p < target) →
      s.fallback d = (t, [])) ∧
    (∀ p, (s.chan (.primary d)).state = .good → (s.chan (.primary d)).pressure = some p → target ≤ p →
      s.fallback d = (t, [.endCause d .complete])))
/-! ## Targets, rates and prices -/

/-- The target pressure (R141). -/
def Obligations.TheTargetIsTheLeastOfThree : Prop :=
  ∀ (z : Nozzle) (sn : Snapshot) (row : RampRow) (soc : Nat), (0 : Int) ≤ 27315 + 10 * (sn.tAmb + row.rise) →
    let nominal : Int := if z = .hp then 70000 else 35000
    let ceiling : Int := if z = .hp then 87500 else 43750
    let third : Int := nominal * soc * (27315 + 10 * (sn.tAmb + row.rise)) / (100 * 28815)
    (sn.vehicle.pCls = none → (sn.target z soc row : Int) = min ceiling third) ∧
    (∀ p, sn.vehicle.pCls = some p → (sn.target z soc row : Int) = min ceiling (min p third)) ∧
    (sn.target z soc row : Int) ≤ ceiling ∧
    (∀ (p0 mLim : Nat) (g : Grade), (g, row) ∈ sn.ramp →
      ∃ x, (g, x) ∈ planFigures z sn p0 mLim ∧ x.target = sn.target z sn.vehicle.soc row) ∧
    (∀ (r : Ramp) (g : Grade) (m : Nat), (sn.ramp.find? fun x => decide (x.1 = g)) = some (g, row) →
      (r.recompute z sn g soc m).target = sn.target z soc row)

/-- The ramp rate (R142). -/
def Obligations.TheRampRateIsClamped : Prop :=
  ∀ (z : Nozzle) (sn : Snapshot) (row : RampRow),
    let rMin : Int := if z = .hp then 60 else 30
    let raw : Int := row.r0 - row.slope * max 0 (sn.tAmb - sn.tRef) / 10
    let rf : Int := max 0 raw * sn.vehicle.factor / 100
    (sn.rate z row : Int) = min (row.r0 : Int) (max rMin rf) ∧
    (rMin ≤ row.r0 →
      (sn.rate z row : Int) = if rf < rMin then rMin else if (row.r0 : Int) < rf then (row.r0 : Int) else rf)

/-- The heat per gram, the expected mass, the reserve set aside at an admission and what a mass increment charges
(R81, R83, R84, R143). The admission test takes the grades from best to worst, and the first whose outlet temperature is
valid and at most T_lim, U needing none, and whose heat leaves the floor beside what the others hold, is admitted (R84). A
request at planning is tested where nobody waits, and joins the wait list at its newest end where somebody does or the test
fails (R85, R86). -/
def Obligations.HeatIsReservedAndCharged : Prop :=
  ((∀ (c : PrecoolCfg) (t : Int) (g : Grade) (k : GradeCfg), (g, k) ∈ [(Grade.a, c.a), (.b, c.b), (.c, c.c)] →
    (k.tPc ≤ t → (heatPerGram c t g : Int) = c.cp * (t - k.tPc) / 10) ∧ (t ≤ k.tPc → heatPerGram c t g = 0)) ∧
  (∀ (c : PrecoolCfg) (t : Int), heatPerGram c t .u = 0) ∧
  (∀ mLim capacity target p0 : Nat, p0 < target →
    expectedMass mLim capacity target p0 = min mLim (capacity * (target - p0) / target)) ∧
  (∀ (s : State) (q : AdmissionRequest) (g : Grade) (f : Figures),
    (s.reserve q g f).precool =
      { s.precool with
        table := s.precool.table.set q.disp
          (some ⟨some g, heatPerGram s.work.precool q.tAmb g, f.expected * heatPerGram s.work.precool q.tAmb g, 0⟩) }) ∧
  (∀ (p : Precool) (d : Four) (m : Nat) (r : Reservation), p.table.get d = some r →
    p.chargeMass d m =
      { p with
        charge := p.charge + m * r.h, table := p.table.set d (some { r with reserved := r.reserved - m * r.h }) })) ∧
  (∀ (s : State) (q : AdmissionRequest),
    let c := s.work.precool
    let out := s.chan .precoolOutlet
    let held (e : Four) : Nat := if e = q.disp then 0 else (s.precool.table.get e).elim 0 (·.reserved)
    let others := held .one + held .two + held .three + held .four
    let leaves (x : Grade × Figures) (floor : Nat) : Prop :=
      (floor : Int) ≤ (s.precool.reserve : Int) - others - (x.2.expected * heatPerGram c q.tAmb x.1 : Nat)
    let passes (x : Grade × Figures) : Prop :=
      match x.1 with
      | .u => leaves x 0
      | .a => (∃ t, out.state = .good ∧ out.value = some t ∧ t ≤ c.a.tLim) ∧ leaves x c.a.floor
      | .b => (∃ t, out.state = .good ∧ out.value = some t ∧ t ≤ c.b.tLim) ∧ leaves x c.b.floor
      | .c => (∃ t, out.state = .good ∧ out.value = some t ∧ t ≤ c.c.tLim) ∧ leaves x c.c.floor
    (∀ pre x post, q.figures = pre ++ x :: post → passes x → (∀ y ∈ pre, ¬passes y) →
      s.admissionTest q = some x ∧
      (s.precool.waitList = [] →
        s.takeAdmission q = (s.reserve q x.1 x.2, [.enterFuelling q.disp x.1 x.2]))) ∧
    ((∀ x ∈ q.figures, ¬passes x) → s.admissionTest q = none) ∧
    (s.precool.waitList ≠ [] ∨ (∀ x ∈ q.figures, ¬passes x) →
      s.takeAdmission q =
        ((State.modDisp
          { s with precool := { s.precool with
            waitList := s.precool.waitList ++ [⟨q, some (c.waitLimit * 1000)⟩] } } q.disp fun p =>
          { p with state := .waitPrecool }).checkpoint q.disp, [])))
/-- A money limit is the greatest mass whose amount does not exceed it (R154, R155). -/
def Obligations.AMoneyLimitIsTheGreatestMass : Prop :=
  ∀ (value price stationMax m : Nat), 0 < price →
    (amount m price ≤ value ↔ m ≤ massLimit .money value price stationMax)

/-! ## Authorizations -/

/-- AUTHORIZE accepted (R108, R109, R169, R154): the sale and the vehicle are captured, the dispenser is AUTHORIZED with
its timer started, and the entry's creation goes to the store; no reply goes out until it is stored. That AUTHORIZED is
entered before the store completes is the model's choice (Log 11). -/
def Obligations.AnAuthorizeIsAccepted : Prop :=
  ∀ (s u : State) (g : Byte) (a : AuthorizeBody) (d : Four) (v : Captured),
    s.Offers 0x20 g (AuthorizeBody.bytes a) u → firstBad (authorizeChecks (AuthorizeBody.bytes a)) = none →
    a.disp = Four.field d → (u.disp d).state = .idle → u.sup.station = .ready → u.meter.session = .none →
    u.meter.cal.agrees = true → u.sup.latches.metrology = false → u.log.ring.length < 64 →
    u.log.counter < 4294967295 → u.sup.resetPending = false →
    let c := u.saleOf d a
    c.price ≠ 0 → captureVehicle u.work (u.dispCfg d).nozzle a = .inr v → 100 ≤ c.mLim →
    ∃ t e, exec (.authorize g a) s = .next t ∧
      e = newEntry u d a c ∧ e.number = u.log.counter ∧ e.state = .opened ∧ e.disp = d ∧ e.price = c.price ∧
      t.log = { u.log with creation := some ⟨e, e⟩, stores := u.log.stores ++ [.create] } ∧
      t.disp d =
        { u.disp d with
          state := .authorized, captured := some v, lastCause := none,
          timers := { (u.disp d).timers with auth := some (u.work.site.authTimeout * 1000) } } ∧
      t.meterRec d = { u.meterRec d with sale := some c } ∧
      t.link = { u.link with buffer := some ⟨0x20, g, AuthorizeBody.bytes a, .storing⟩ } ∧
      (∀ e, e ≠ d → t.disp e = u.disp e ∧ t.meterRec e = u.meterRec e) ∧
      t.field = u.field ∧ t.banks = u.banks ∧ t.comp = u.comp ∧ t.precool = u.precool ∧ t.sup = u.sup

/-- AUTHORIZE turned away by the first condition of R108 that fails; condition 4 latches METROLOGY_FAULT where the
calibration record disagrees with its check value (R160). -/
def Obligations.AnAuthorizeIsRefusedInOrder : Prop :=
  ∀ (s u : State) (g : Byte) (a : AuthorizeBody) (d : Four),
    s.Offers 0x20 g (AuthorizeBody.bytes a) u → firstBad (authorizeChecks (AuthorizeBody.bytes a)) = none →
    a.disp = Four.field d →
    let answers (r : ResultCode) (n : Nat) := exec (.authorize g a) s = .next (u.sendReply ⟨r, n, .none⟩)
    let c := u.saleOf d a
    ((u.disp d).state ≠ .idle → answers .notNow 1) ∧
    ((u.disp d).state = .idle →
      (u.sup.station ≠ .ready → answers .refused 12) ∧
      (u.sup.station = .ready →
        (u.meter.session ≠ .none → answers .refused 13) ∧
        (u.meter.session = .none →
          (u.meter.cal.agrees = false → ∃ t, exec (.authorize g a) s = .next t ∧
            t.sup.latches.metrology = true ∧ t.meter.damaged = true ∧
            t.Replies 0x20 g (AuthorizeBody.bytes a) ⟨.refused, 14, .none⟩) ∧
          (u.meter.cal.agrees = true →
            (u.sup.latches.metrology = true → answers .refused 14) ∧
            (u.sup.latches.metrology = false →
              (64 ≤ u.log.ring.length → answers .refused 15) ∧
              (u.log.ring.length < 64 →
                (4294967295 ≤ u.log.counter → answers .refused 16) ∧
                (u.log.counter < 4294967295 →
                  (c.price = 0 → answers .refused 17) ∧
                  (c.price ≠ 0 →
                    (∀ r, captureVehicle u.work (u.dispCfg d).nozzle a = .inl r → answers .refused r.code) ∧
                    (∀ v, captureVehicle u.work (u.dispCfg d).nozzle a = .inr v → c.mLim < 100 →
                      answers .refused 20)))))))))

/-- The pre-start close and the rows that lead to it: CANCEL, STOP and AUTHORIZATION_TIMER_EXPIRY in AUTHORIZED (R110,
R111, R127, R173); CANCEL in another state is answered NOT_NOW, STATE. -/
def Obligations.PreStartClosesLeaveNoFill : Prop :=
  (∀ (s : State) (d : Four) (c : Cause) (n : Nat) (e : LogEntry), (s.disp d).state = .authorized →
    c ∈ [Cause.cancelled, .stationStop, .authTimeout, .linkLost, .shutdown, .reset] →
    s.log.own.get d = some n → findEntry n s.log.ring = some e →
    let t := s.endFill d c
    (t.disp d).state = (if (s.disp d).closePending then .closed else .idle) ∧
    (t.disp d).captured = none ∧ (t.disp d).closePending = false ∧ (t.disp d).timers.auth = none ∧
    (t.meterRec d).sale = none ∧ t.log.own.get d = none ∧
    findEntry n t.log.ring =
      some { e with
        cause := some c, state := .closed, endTime := s.link.clock,
        clockUnset := e.clockUnset || !s.link.clockSet } ∧
    t.link = s.link.post .fillEnd (.dispenser d) c.code ∧
    (∀ x, x ≠ d → t.disp x = s.disp x ∧ t.meterRec x = s.meterRec x) ∧
    t.field = s.field ∧ t.banks = s.banks ∧ t.comp = s.comp ∧ t.precool = s.precool ∧ t.sup = s.sup) ∧
  (∀ (s : State) (d : Four) (c : Cause), (s.disp d).state.running = false → (s.disp d).state ≠ .authorized →
    s.endFill d c = s) ∧
  (∀ (s : State) (d : Four), (s.disp d).state = .authorized → (s.disp d).timers.auth.isSome = true →
    exec (.authorizationTimerExpiry d) s = .next (s.endFill d .authTimeout)) ∧
  (∀ (s u : State) (g : Byte) (d : Four),
    (s.Offers 0x21 g [Four.field d] u →
      ((u.disp d).state = .authorized →
        exec (.cancel g (Four.field d)) s = .next ((u.endFill d .cancelled).sendReply ⟨.ok, 0, .none⟩)) ∧
      ((u.disp d).state ≠ .authorized →
        exec (.cancel g (Four.field d)) s = .next (u.sendReply ⟨.notNow, 1, .none⟩))) ∧
    (s.Offers 0x22 g [Four.field d] u →
      exec (.stop g (Four.field d)) s = .next ((u.endFill d .stationStop).sendReply ⟨.ok, 0, .none⟩)))

/-- OPEN, CLOSE and CLEAR by the dispenser's state, and OPEN, CLOSE and STOP with dispenser 0, which each dispenser takes
independently (R7, R127, R131, R132). That dispenser 1 takes a broadcast STOP first, with all that follows, and then 2, 3 and
4, is the model's choice (Log 9). -/
def Obligations.DispensersAreOpenedClosedAndCleared : Prop :=
  ∀ (s u : State) (g : Byte) (d : Four),
    let ok : Answer := ⟨.ok, 0, .none⟩
    let opened (p : Dispenser) : Dispenser :=
      if p.state = .closed then { p with state := .idle } else { p with closePending := false }
    let shut (p : Dispenser) : Dispenser :=
      if p.state = .idle then { p with state := .closed, closePending := false }
      else if p.state = .closed then p else { p with closePending := true }
    let four : Answer := ⟨.ok, 0, .broadcast [(.ok, 0), (.ok, 0), (.ok, 0), (.ok, 0)]⟩
    (s.Offers 0x23 g [Four.field d] u →
      exec (.openDispenser g (Four.field d)) s = .next ((u.modDisp d opened).sendReply ok)) ∧
    (s.Offers 0x24 g [Four.field d] u →
      exec (.closeDispenser g (Four.field d)) s = .next ((u.modDisp d shut).sendReply ok)) ∧
    (s.Offers 0x23 g [0] u →
      exec (.openDispenser g 0) s = .next (State.sendReply { u with disps := u.disps.map opened } four)) ∧
    (s.Offers 0x24 g [0] u →
      exec (.closeDispenser g 0) s = .next (State.sendReply { u with disps := u.disps.map shut } four)) ∧
    (s.Offers 0x22 g [0] u →
      exec (.stop g 0) s =
        .next (((((u.endFill .one .stationStop).endFill .two .stationStop).endFill .three .stationStop).endFill .four
          .stationStop).sendReply four)) ∧
    (s.Offers 0x25 g [Four.field d] u →
      ((u.disp d).state ≠ .fault →
        exec (.clear g (Four.field d)) s = .next (u.sendReply ⟨.notNow, 1, .none⟩)) ∧
      ((u.disp d).state = .fault → (u.switch (.holder d)).settled ≠ some .closed →
        exec (.clear g (Four.field d)) s = .next (u.sendReply ⟨.notNow, 3, .none⟩)) ∧
      ((u.disp d).state = .fault → (u.switch (.holder d)).settled = some .closed →
        exec (.clear g (Four.field d)) s =
          .next ((u.modDisp d fun p =>
            { p with state := if p.closePending then .closed else .idle, closePending := false }).sendReply ok)))
/-! ## The fill -/

/-- The connection (R113, R114, R116): the grant begins the pulse, the pulse's expiry closes the path and releases the
bank, the settle judges P0, and the leak hold judges the drop. Planning follows (R117): the ambient stage yields T_amb,
clamped at −40.0 °C, or ends the fill AMBIENT above +50.0 °C, without a value, or with one older than 600 s on a channel that
is not GOOD (R140); the vehicle is resolved (R100) and the receiver takes its watch state (R102); P0 at the least target ends
the fill FULL_AT_START, and otherwise the admission request is made. -/
def Obligations.TheConnectionIsPulsedSettledAndHeld : Prop :=
  (∀ (s : State) (d b : Four),
    ((s.disp d).state = .connecting .bank → s.banks.grant.get d = some b → (s.valve (.bv b d)).state = .ok →
      (s.valve (.dv d)).state = .ok → ∃ t, s.takeGrant d b none = (t, []) ∧
        (t.disp d).state = .connecting .pulse ∧ (t.disp d).timers.pulse = some 1000 ∧
        (t.valve (.bv b d)).commanded = .opened ∧ (t.valve (.dv d)).commanded = .opened ∧
        (∀ f p, (s.disp d).fill = some f → (s.chan (.primary d)).pressure = some p →
          t.field.pcv.get d = min (if f.nozzle = .hp then 87500 else 43750) (p + 2000))) ∧
    ((s.disp d).state = .connecting .pulse → (s.disp d).timers.pulse.isSome = true → s.banks.grant.get d = some b →
      exec (.pulseTimerExpiry d) s =
        .next (State.take
          ((((s.command (.bv b d) .closed).command (.dv d) .closed).setPcv d 0).modDisp d fun p =>
            { p with
              state := .connecting .settle, timers := { p.timers with pulse := none, settle := some 2000 } })
          [.release b d])) ∧
    ((s.disp d).state = .connecting .settle → (s.disp d).timers.settle.isSome = true →
      (∀ p, (s.chan (.primary d)).pressure = some p → p < 500 →
        exec (.connectionSettleExpiry d) s = .next (s.endFill d .noPressure)) ∧
      (∀ p, (s.chan (.primary d)).pressure = some p → 500 ≤ p →
        exec (.connectionSettleExpiry d) s =
          .next ((s.modDisp d fun q =>
            { q with
              state := .leakCheck, leakRing := [], fill := q.fill.map fun f => { f with p0 := some p },
              timers := { q.timers with settle := none, leak := some (s.work.site.leakHold * 1000) } }).checkpoint
            d))) ∧
    ((s.disp d).state = .leakCheck → (s.disp d).timers.leak.isSome = true →
      ((s.disp d).leakRing = [] → exec (.leakHoldExpiry d) s = .next (s.endFill d .sensor)) ∧
      (∀ f p0 least, (s.disp d).fill = some f → f.p0 = some p0 → least ∈ (s.disp d).leakRing →
        (∀ x ∈ (s.disp d).leakRing, least ≤ x) →
        let u := s.modDisp d fun q =>
          { q with leakDrop := some (p0 - least), timers := { q.timers with leak := none } }
        (s.work.site.leakDrop < p0 - least → exec (.leakHoldExpiry d) s = .next (u.endFill d .leak)) ∧
        (p0 - least ≤ s.work.site.leakDrop → exec (.leakHoldExpiry d) s = .next (u.take [.plan d]))))) ∧
  (∀ r : ChanRec,
    (r.value = none → ambientStage r = none) ∧
    (∀ v, r.value = some v →
      (r.state ≠ .good ∧ 6000 < r.age ∨ 500 < v → ambientStage r = none) ∧
      (r.state = .good ∨ r.age ≤ 6000 → v ≤ 500 → ambientStage r = some (if v < -400 then -400 else v)))) ∧
  (∀ (s : State) (d : Four) (f : Fill) (c : Captured) (p0 : Nat) (sale : Sale), (s.disp d).fill = some f →
    (s.disp d).captured = some c → f.p0 = some p0 → (s.meterRec d).sale = some sale →
    (ambientStage (s.chan .ambient) = none → s.plan d = (s, [.endCause d .ambient])) ∧
    (∀ tAmb, ambientStage (s.chan .ambient) = some tAmb →
      let sn : Snapshot :=
        { tAmb := tAmb, vehicle := s.resolveVehicle d c,
          ramp := (gradesAllowed f.nozzle).map fun g => (g, RampTable.row s.work.ramp f.nozzle g),
          tRef := s.work.site.tRef, socNc := s.work.site.socNc }
      let figures := planFigures f.nozzle sn p0 sale.mLim
      ∃ least, (∃ x ∈ figures, x.2.target = least) ∧ (∀ x ∈ figures, least ≤ x.2.target) ∧
        let u := (s.modReceiver d fun v =>
            { v with watch := if sn.vehicle.comm = .comm then .pending else .idle, disagree := 0 }).modDisp d fun p =>
          { p with fill := some { f with snapshot := some sn, least := some least } }
        (least ≤ p0 → s.plan d = (u, [.endCause d .fullAtStart])) ∧
        (p0 < least → s.plan d = u.takeAdmission ⟨d, tAmb, figures⟩))) ∧
  (∀ (s : State) (d : Four) (f : Fill) (c : Captured), (s.disp d).fill = some f →
    let site := s.work.site
    let fresh := if (s.receiver d).fresh.isSome ∧ (s.receiver d).age ≤ 20 then (s.receiver d).last else none
    let v := s.resolveVehicle d c
    (fresh = none → ∀ n,
      (c.selection = .cls n ∨ c.selection = .autoCls n →
        v = ⟨.noncomm, .entry n, c.capacity, c.factor, c.pCls, site.socNc⟩) ∧
      (c.selection = .user ∨ c.selection = .autoUser →
        v = ⟨.noncomm, .user, c.capacity, c.factor, c.pCls, site.socNc⟩)) ∧
    (∀ r, fresh = some r →
      (∀ n, c.selection = .cls n →
        v = ⟨.comm, .entry n, c.capacity, c.factor, c.pCls, c.soc.getD site.socComm⟩) ∧
      (c.selection = .user → v = ⟨.comm, .user, c.capacity, c.factor, c.pCls, site.socComm⟩) ∧
      ((∃ n, c.selection = .autoCls n) ∨ c.selection = .autoUser →
        let agrees (e : ClassEntry) : Bool :=
          e.present && (if f.nozzle = .hp then e.onHp else e.onMp) &&
            decide (r.tankCode / 2 ^ e.groupWidth = e.tankCode / 2 ^ e.groupWidth)
        (∀ pre e post, s.work.classes = pre ++ e :: post → agrees e = true → (∀ x ∈ pre, agrees x = false) →
          v = ⟨.comm, .entry (pre.length + 1), e.capacity, e.factor, e.pCls, e.soc.getD site.socComm⟩) ∧
        ((∀ e ∈ s.work.classes, agrees e = false) →
          v = ⟨.comm, .entry 0, min 60000 (max 100 (r.capacity * if f.nozzle = .hp then 40 else 24)),
            s.work.generic.factor, s.work.generic.pCls, s.work.generic.soc.getD site.socComm⟩))))
/-- RAMP_STEP (R120, R122, R145): k counts where no hold condition stands and the setpoint is below the target, the
setpoint in force is commanded, and the bank and precool tests follow; with no grant and no reservation only the timer
is left to restart. The setpoint never passes the target. The switch tests (R40) of a dispenser that holds a bank and
waits for none: the margin test, which a bank without a usable pressure meets, and the lag count, which is kept also
where the margin test demands (the model's reading, Log 26); a demand is walked. The precool test (R89): a GOOD outlet
more than 2.0 °C over T_lim adds to the warm count, a GOOD one at that or below clears it, another leaves it; at 5 the
fill is downgraded to the next lower grade (R90): the fill recomputes at it (R146, R147), the downgrade is counted
(R135), the reservation takes the remaining mass × its heat, and PRECOOL_GRADE is posted, all before a pressure at the
new target ends the fill COMPLETE (the model's reading, Log 31); with no lower grade the fill ends PRECOOL_LOST (R91). -/
def Obligations.TheRampStepsToTheTarget : Prop :=
  (∀ (s : State) (d : Four) (f : Fill) (r : Ramp), (s.disp d).state = .fuelling →
    (s.disp d).timers.ramp.isSome = true → (s.disp d).fill = some f → f.ramp = some r →
    let held := (s.disp d).waitBank || (s.disp d).overshoot || (s.disp d).vehicleHalt
    let k := if held = false ∧ min (r.base + r.k * r.rate) r.target < r.target then r.k + 1 else r.k
    let pSet := min (r.base + k * r.rate) r.target
    let u := (s.modDisp d fun p => { p with fill := some { f with ramp := some { r with k := k } } }).setPcv d pSet
    exec (.rampStep d) s = .next (u.take [.rampBank d, .rampPrecool d, .rampRestart d]) ∧
    (s.banks.grant.get d = none → s.precool.table.get d = none →
      exec (.rampStep d) s = .next (u.modTimers d fun m => { m with ramp := some 1000 })) ∧
    pSet ≤ r.target) ∧
  (∀ (s : State) (d : Four) (q : Reservation) (g : Grade) (k : GradeCfg), (s.disp d).state = .fuelling →
    s.precool.table.get d = some q → q.grade = some g →
    (g, k) ∈ [(Grade.a, s.work.precool.a), (.b, s.work.precool.b), (.c, s.work.precool.c)] →
    let out := s.chan (.outlet d)
    ∃ warm : Nat,
      (out.state = .good → ∀ v, out.value = some v →
        (k.tLim + 20 < v → warm = min 5 (q.warm + 1)) ∧ (v ≤ k.tLim + 20 → warm = 0)) ∧
      (out.state ≠ .good ∨ out.value = none → warm = q.warm) ∧
      let u : State := { s with precool := { s.precool with
        table := s.precool.table.set d (some { q with warm := warm }) } }
      (warm < 5 → s.precoolTest d = (u, [])) ∧
      (5 ≤ warm → lowerGrade (s.fillNozzle d) g = none → s.precoolTest d = (u, [.endCause d .precoolLost])) ∧
      (∀ g', 5 ≤ warm → lowerGrade (s.fillNozzle d) g = some g' → s.precoolTest d = u.downgrade d g g')) ∧
  (∀ (s : State) (d : Four), s.precool.table.get d = none ∨
    (∃ q, s.precool.table.get d = some q ∧ (q.grade = none ∨ q.grade = some .u)) → s.precoolTest d = (s, [])) ∧
  lowerGrade .hp .a = some .b ∧ lowerGrade .hp .b = some .c ∧ lowerGrade .hp .c = none ∧
  lowerGrade .mp .a = some .b ∧ lowerGrade .mp .b = some .c ∧ lowerGrade .mp .c = some .u ∧
  lowerGrade .mp .u = none ∧
  (∀ (s : State) (d : Four) (g g' : Grade) (f : Fill) (sn : Snapshot) (r : Ramp) (row : RampRow),
    (s.disp d).fill = some f → f.snapshot = some sn → f.ramp = some r →
    (sn.ramp.find? fun x => decide (x.1 = g')) = some (g', row) →
    let target := sn.target f.nozzle sn.vehicle.soc row
    let base := min (min (r.base + r.k * r.rate) r.target) target
    let left := r.expected - (s.meterRec d).mass
    let h := heatPerGram s.work.precool sn.tAmb g'
    let u := (s.modDisp d fun p =>
        { p with
          fill := some { f with
            downgrades := f.downgrades.map (· + 1),
            ramp := some ⟨g', target, sn.rate f.nozzle row, r.expected, base, 0, some left⟩ },
          stats := { p.stats with downgrades := min 65535 (p.stats.downgrades + 1) } }).setPcv d base
    let t : State := { u with
      precool := { s.precool with table := s.precool.table.set d (some ⟨some g', h, left * h, 0⟩) },
      link := s.link.post .precoolGrade (.dispenser d) (256 * gradeCode g + gradeCode g') }
    ((∀ p, (s.chan (.primary d)).state = .good → (s.chan (.primary d)).pressure = some p → p < target) →
      s.downgrade d g g' = (t, [])) ∧
    (∀ p, (s.chan (.primary d)).state = .good → (s.chan (.primary d)).pressure = some p → target ≤ p →
      s.downgrade d g g' = (t, [.endCause d .complete]))) ∧
  (∀ (s : State) (d b : Four) (f : Fill) (r : Ramp), (s.disp d).state = .fuelling → s.banks.grant.get d = some b →
    s.waitingOn d = none → (s.disp d).fill = some f → f.ramp = some r →
    let site := s.work.site
    let pSet := min (r.base + r.k * r.rate) r.target
    let marginLow := s.pBank b = none ∨
      ∃ pb pd, s.pBank b = some pb ∧ s.pDisp d = some pd ∧ pb < pd + site.dPSwitch
    let lags := ∃ pd, s.pDisp d = some pd ∧ pd + site.lagLimit < pSet
    ∃ lag : Nat, (lags → lag = min 3 (s.banks.lag.get d + 1)) ∧ (¬lags → lag = 0) ∧
      let t : State := { s with banks := { s.banks with lag := s.banks.lag.set d lag } }
      (marginLow ∨ lag = 3 → s.switchTests d = (t, [.walk d none])) ∧
      (¬marginLow → lag ≠ 3 → s.switchTests d = (t, []))) ∧
  (∀ (s : State) (d : Four),
    (s.disp d).state ≠ .fuelling ∨ s.banks.grant.get d = none ∨ (s.waitingOn d).isSome = true →
    s.switchTests d = (s, []))
/-- The rows that end a running fill: FILL_TIME_EXPIRY, OVERSHOOT_TIMER_EXPIRY, HALT_TIMER_EXPIRY and
PRECOOL_WAIT_EXPIRY (R87, R122, R126). -/
def Obligations.TimersEndFills : Prop :=
  ∀ (s : State) (d : Four),
    ((s.disp d).state = .fuelling → (s.disp d).timers.fill.isSome = true →
      exec (.fillTimeExpiry d) s = .next (s.endFill d .timeLimit)) ∧
    ((s.disp d).overshoot = true → (s.disp d).timers.overshoot.isSome = true →
      exec (.overshootTimerExpiry d) s = .next (s.endFill d .control)) ∧
    ((s.disp d).vehicleHalt = true → (s.disp d).timers.halt.isSome = true →
      exec (.haltTimerExpiry d) s = .next (s.endFill d .vehicleHalt)) ∧
    (∀ w ∈ s.precool.waitList, w.request.disp = d → w.timer.isSome = true →
      exec (.precoolWaitExpiry d) s =
        .next (State.endFill
          { s with precool := { s.precool with waitList := s.precool.waitList.filter (·.request.disp ≠ d) } } d
          .precoolWait))

/-- An end cause in a running state (R126, R129): the dispenser is in ENDING with that cause, whatever follows from the
release of its bank; its setpoint is 0, its path commanded closed, and it stands on no bank's wait list. -/
def Obligations.ARunningFillEnds : Prop :=
  ∀ (s : State) (d : Four) (c : Cause), (s.disp d).state.running = true →
    let t := s.endFill d c
    (t.disp d).state = .ending ∧ (∀ f, (t.disp d).fill = some f → f.cause = some c) ∧
    (t.disp d).waitBank = false ∧ (t.disp d).overshoot = false ∧ (t.disp d).vehicleHalt = false ∧
    t.field.pcv.get d = 0 ∧
    ((s.valve (.dv d)).state = .ok → (t.valve (.dv d)).commanded = .closed) ∧
    (∀ b, (s.valve (.bv b d)).state = .ok → (t.valve (.bv b d)).commanded = .closed) ∧
    (∀ b, d ∉ (t.bank b).waiters) ∧
    (s.banks.grant.get d = none →
      (t.disp d).timers = { noTimers with ending := some 2000 } ∧ t.banks.position.get d = none ∧
      (t.receiver d).watch = .idle ∧ (t.precool.table.get d).isSome = true)

/-- ENDING_SETTLE_EXPIRY (R130, R135, R157, R173): the final figures, the reservation returned, the entry closed with
them, FILL_END and for a fault cause DISPENSER_FAULT posted, the five counters, and the state by the cause and the
holder. -/
def Obligations.TheSettleFinalisesTheFill : Prop :=
  ∀ (s : State) (d : Four) (f : Fill) (c : Cause) (p : Sale) (n : Nat) (e : LogEntry),
    (s.disp d).state = .ending → (s.disp d).timers.ending.isSome = true → (s.disp d).fill = some f →
    f.cause = some c → (s.meterRec d).sale = some p → s.log.own.get d = some n →
    findEntry n s.log.ring = some e → ∃ t, exec (.endingSettleExpiry d) s = .next t ∧
      let m := (s.meterRec d).mass
      (t.meterRec d).final = some ⟨m, min (amount m p.price) p.cap, m - p.mLim⟩ ∧
      t.precool = { s.precool with table := s.precool.table.set d none } ∧
      (∃ x, findEntry n t.log.ring = some x ∧ x.state = .closed ∧ x.cause = some c ∧ x.mass = m ∧
        x.billed = min (amount m p.price) p.cap ∧ x.overrun = m - p.mLim ∧ x.usage = f.usage ∧
        x.endTime = s.link.clock ∧ x.finalPressure = ((s.chan (.primary d)).pressure).getD 0) ∧
      t.log.own.get d = none ∧
      t.link =
        (if 32 ≤ c.code then (s.link.post .fillEnd (.dispenser d) c.code).post .dispenserFault (.dispenser d) c.code
         else s.link.post .fillEnd (.dispenser d) c.code) ∧
      (t.disp d).lastCause = some c ∧ (t.disp d).timers.ending = none ∧
      (32 ≤ c.code → (t.disp d).state = .fault) ∧
      (c.code < 32 → (s.switch (.holder d)).settled = some .closed →
        (t.disp d).state = if (s.disp d).closePending then .closed else .idle) ∧
      (c.code < 32 → (s.switch (.holder d)).settled ≠ some .closed → (t.disp d).state = .ended) ∧
      (t.disp d).stats.leaks =
        (if c = .leak then min 65535 ((s.disp d).stats.leaks + 1) else (s.disp d).stats.leaks) ∧
      (t.disp d).stats.complete =
        (if c = .complete ∨ c = .socReached then min 65535 ((s.disp d).stats.complete + 1)
         else (s.disp d).stats.complete) ∧
      (t.disp d).stats.faults =
        (if 32 ≤ c.code then min 65535 ((s.disp d).stats.faults + 1) else (s.disp d).stats.faults) ∧
      (t.disp d).stats.mismatches =
        (if c = .meterMismatch then min 65535 ((s.disp d).stats.mismatches + 1)
         else (s.disp d).stats.mismatches) ∧
      (t.disp d).stats.downgrades = (s.disp d).stats.downgrades ∧
      t.field = s.field ∧ t.banks = s.banks ∧ t.comp = s.comp ∧ t.sup = s.sup
/-! ## Metering and calibration -/

/-- METER_PULSE and FLOW_TIMER_EXPIRY (R149 to R152, R156): a metered pulse counts, and the mass is worked out afresh
from the count; a rise is charged, takes a checkpoint where the new mass is a multiple of 50 g (R171), and in a running
state ends the fill LIMIT where it reaches the limit's threshold; in ENDING it does no more. A creep pulse counts toward
METER_CREEP. -/
def Obligations.PulsesAreMetered : Prop :=
  ∀ (s : State) (d : Four),
    let r := s.meterRec d
    let k := s.meter.cal.factors.get d
    let m := (r.pulses + 1) * 1000 / k
    let creep := (r.creep + 1) * 1000 / k
    let charged := (s.modMeterRec d fun r => { r with pulses := r.pulses + 1, mass := m }).modPrecool fun p =>
      p.chargeMass d (m - r.mass)
    let marked := if m % 50 = 0 then charged.checkpoint d else charged
    ((s.disp d).state.filling = true → r.pulses = 4294967295 → exec (.meterPulse d) s = .next s) ∧
    ((s.disp d).state.filling = true → r.pulses < 4294967295 →
      (∃ t, exec (.meterPulse d) s = .next t ∧ (t.meterRec d).pulses = r.pulses + 1 ∧ (t.meterRec d).mass = m) ∧
      (m ≤ r.mass → exec (.meterPulse d) s =
        .next (s.modMeterRec d fun r => { r with pulses := r.pulses + 1, mass := m })) ∧
      (r.mass < m →
        (∀ c, r.sale = some c → m < (if c.mLim ≤ c.closeAhead then 1 else c.mLim - c.closeAhead) →
          exec (.meterPulse d) s = .next marked) ∧
        (∀ c, r.sale = some c → (if c.mLim ≤ c.closeAhead then 1 else c.mLim - c.closeAhead) ≤ m →
          (s.disp d).state.running = true → exec (.meterPulse d) s = .next (marked.endFill d .limit)) ∧
        ((s.disp d).state = .ending → exec (.meterPulse d) s = .next marked))) ∧
    ((s.disp d).state.filling = false → creep < 10 →
      exec (.meterPulse d) s = .next (s.modMeterRec d fun r => { r with creep := r.creep + 1 })) ∧
    ((s.disp d).state.filling = false → 10 ≤ creep →
      exec (.meterPulse d) s =
        .next ((s.modMeterRec d fun r => { r with creep := 0 }).post .meterCreep (.dispenser d) 10)) ∧
    exec .flowTimerExpiry s =
      .next { s with
        meter := { s.meter with
          flowTimer := some 100, recs := s.meter.recs.map fun r => { r with flow := r.flow.tail ++ [r.mass] } } }

/-- CAL OPEN by the first condition of R162 that fails, CAL WRITE, CAL CLOSE and CAL_CLOSE_STORE_COMPLETE (R163, R164):
the new record's check value agrees, METROLOGY_FAULT clears, and the reply carries the audit counter and the check
value. -/
def Obligations.CalibrationOpensWritesAndCloses : Prop :=
  ∀ (s u : State) (g : Byte),
    let ok : Answer := ⟨.ok, 0, .none⟩
    let rest := ∀ d, (u.disp d).state = .closed ∨ (u.disp d).state = .idle ∨ (u.disp d).state = .fault
    (s.Offers 0x50 g [] u →
      (u.meter.session ≠ .none → exec (.calOpen g) s = .next (u.sendReply ⟨.notNow, 1, .none⟩)) ∧
      (u.meter.session = .none → (u.switch .sealIn).settled ≠ some .opened →
        exec (.calOpen g) s = .next (u.sendReply ⟨.notNow, 8, .none⟩)) ∧
      (u.meter.session = .none → (u.switch .sealIn).settled = some .opened → ¬rest →
        exec (.calOpen g) s = .next (u.sendReply ⟨.notNow, 4, .none⟩)) ∧
      (u.meter.session = .none → (u.switch .sealIn).settled = some .opened → rest → 65535 ≤ u.meter.cal.audit →
        exec (.calOpen g) s = .next (u.sendReply ⟨.notNow, 10, .none⟩)) ∧
      (u.meter.session = .none → (u.switch .sealIn).settled = some .opened → rest → u.meter.cal.audit < 65535 →
        exec (.calOpen g) s =
          .next (State.sendReply { u with meter := { u.meter with session := .opened u.meter.cal.factors } } ok))) ∧
    (∀ (d : Four) (k : Half), 1000 ≤ k.toNat → k.toNat ≤ 60000 → s.Offers 0x51 g ([Four.field d] ++ half2 k) u →
      (∀ staged, u.meter.session = .opened staged →
        exec (.calWrite g (Four.field d) k) s =
          .next (State.sendReply
            { u with meter := { u.meter with session := .opened (staged.set d k.toNat) } } ok)) ∧
      (u.meter.session = .none →
        exec (.calWrite g (Four.field d) k) s = .next (u.sendReply ⟨.notNow, 11, .none⟩))) ∧
    (s.Offers 0x52 g [] u →
      (u.meter.session = .none → exec (.calClose g) s = .next (u.sendReply ⟨.notNow, 11, .none⟩)) ∧
      (∀ staged, u.meter.session = .opened staged → ∃ r : CalRecord,
        r.factors = staged ∧ r.agrees = true ∧
        r.audit = (if staged = u.meter.cal.factors then u.meter.cal.audit else u.meter.cal.audit + 1) ∧
        exec (.calClose g) s =
          .next { u with
            meter := { u.meter with session := .storing r },
            link := { u.link with buffer := some ⟨0x52, g, [], .storing⟩ } })) ∧
    (∀ r, s.meter.session = .storing r → s.link.buffer = some ⟨0x52, g, [], .storing⟩ →
      ∃ t, exec .calCloseStoreComplete s = .next t ∧
        t.meter = { s.meter with cal := r, damaged := false, session := .none } ∧
        t.sup.latches = { s.sup.latches with metrology := false } ∧
        t.Replies 0x52 g [] ⟨.ok, 0, .calClosed r.audit r.check⟩ ∧
        t = { s with meter := t.meter, sup := { s.sup with latches := t.sup.latches },
                     link := { s.link with buffer := t.link.buffer } })

/-! ## The transaction log -/

/-- SETTLE by the state of the entry (R175): a CLOSED entry becomes SETTLED, reclaim removes the SETTLED entries at the tail
(R176), and the store of both begins. Another state, or a number not in the ring, is answered and changes nothing. That
LOG_ENTRY_STORE_COMPLETE completes the stores in their order, and SETTLE's then writes the same to nonvolatile storage, is
the model's reading (Log 12). -/
def Obligations.SettleAnswersByTheEntrysState : Prop :=
  (∀ (s u : State) (g : Byte) (n : Word), s.Offers 0x42 g (word4 n) u →
    ((∀ e ∈ u.log.ring, e.number ≠ n.toNat) →
      exec (.settle g n) s = .next (u.sendReply ⟨.notFound, 0, .none⟩)) ∧
    (∀ e, findEntry n.toNat u.log.ring = some e →
      (e.state = .settled → exec (.settle g n) s = .next (u.sendReply ⟨.already, 0, .none⟩)) ∧
      (e.state = .opened → exec (.settle g n) s = .next (u.sendReply ⟨.notNow, 9, .none⟩)) ∧
      (e.state = .closed → ∃ t, exec (.settle g n) s = .next t ∧
        t.log.ring =
          (u.log.ring.map fun x => if x.number = n.toNat then { x with state := .settled } else x).dropWhile
            (fun x => decide (x.state = .settled)) ∧
        t.log.stores =
          u.log.stores ++ [.settle n.toNat (t.log.ring.head?.elim u.log.counter (·.number))] ∧
        t.log.nearFull = decide (56 ≤ t.log.ring.length) ∧ t.log.full = decide (64 ≤ t.log.ring.length) ∧
        t.Replies 0x42 g (word4 n) ⟨.ok, 0, .none⟩ ∧
        t = { u with link := t.link, log := t.log }))) ∧
  (∀ (s : State) (n tail : Nat) (rest : List EntryStore), s.log.stores = .settle n tail :: rest →
    exec .logEntryStoreComplete s =
      .next { s with log := { s.log with
        stores := rest,
        stored := (s.log.stored.map fun x => if x.number = n then { x with state := .settled } else x).filter
          fun x => decide (tail ≤ x.number) } })

/-- The log's stores complete (R169, R172, R173, R177): a creation puts its entry at the head, raises the counter, makes
it the dispenser's own entry and answers the AUTHORIZE; a close reaches the store; a checkpoint's image replaces the
stored one and the one behind it begins; a recovered entry stands closed in both, and the next OPEN entry is taken or S4
begins. A recovered entry (R177) keeps its image's figures, the billed amount among them; its end time is the clock's,
its final pressure 0, and where the held mark is set the last usage item takes the mass that the items before it leave.
That stores complete in their order is the model's reading (Log 12, Log 33). The marks (R170): a count that reaches 56
posts LOG_NEAR_FULL, one that reaches 64 then LOG_FULL, each once until the count has fallen below. A checkpoint (R171)
copies the mass, the billed figure and the parts of the fill into the OPEN entry, with the held mark, and begins or
queues the store of its image. -/
def Obligations.TheLogsStoresComplete : Prop :=
  (∀ s : State,
    (∀ c rest g body, s.log.creation = some c → c.entry.state = .opened → s.log.stores = .create :: rest →
      s.log.ring.length < 55 → s.link.buffer = some ⟨0x20, g, body, .storing⟩ →
      ∃ t, exec .logEntryStoreComplete s = .next t ∧
        t.log = { s.log with
          ring := s.log.ring ++ [c.entry], stored := s.log.stored ++ [c.stored], counter := s.log.counter + 1,
          creation := none, own := s.log.own.set c.entry.disp (some c.entry.number), stores := rest,
          nearFull := false, full := false } ∧
        t.Replies 0x20 g body ⟨.ok, 0, .authorized c.entry.number c.entry.mLim c.entry.cap⟩ ∧
        t = { s with log := t.log, link := { s.link with buffer := t.link.buffer } }) ∧
    (∀ e rest, s.log.stores = .close e :: rest →
      exec .logEntryStoreComplete s =
        .next { s with log := { s.log with
          stores := rest, stored := s.log.stored.map fun x => if x.number = e.number then e else x } }) ∧
    (∀ d w, s.log.checkpoints.get d = some w →
      (∀ c, s.log.creation = some c → c.entry.number ≠ w.writing.number) →
      exec (.checkpointStoreComplete d) s =
        .next { s with log := { s.log with
          stored := s.log.stored.map fun x =>
            if x.number = w.writing.number ∧ x.state = .opened then w.writing else x,
          checkpoints := s.log.checkpoints.set d (w.waiting.map fun e => ⟨e, none⟩) } }) ∧
    (∀ e, s.log.recovering = some e → ∃ t, exec .logRecoveryStoreComplete s = .next t ∧
      t.log.ring = s.log.ring.map (fun x => if x.number = e.number then e else x) ∧
      t.log.stored = s.log.stored.map (fun x => if x.number = e.number then e else x) ∧
      ((∀ x ∈ t.log.ring, x.state ≠ .opened) →
        t.log.recovering = none ∧ t.sup.station = .startUp .s4 ∧ t.field.sweep.phase = .channels) ∧
      (∀ x, firstOpen t.log.ring = some x → ∃ y, t.log.recovering = some y ∧
        y.number = x.number ∧ y.state = .closed ∧ y.mass = x.mass ∧ y.overrun = x.mass - x.mLim ∧
        y.fromCheckpoint = true ∧ y.cause = some (if s.sup.resetKind = .powerOn then .powerLoss else .reset) ∧
        y.billed = x.billed ∧ y.endTime = s.link.clock ∧ y.finalPressure = 0 ∧
        y.clockUnset = (x.clockUnset || !s.link.clockSet) ∧
        (x.held = false ∨ x.usage = [] → y.usage = x.usage) ∧
        (∀ before last, x.held = true → x.usage = before ++ [last] →
          y.usage = before ++ [{ last with grams := x.mass - (before.map (·.grams)).sum }]) ∧
        y = { x with
          state := .closed, overrun := y.overrun, usage := y.usage, held := false, finalPressure := 0, cause := y.cause,
          endTime := y.endTime, clockUnset := y.clockUnset, fromCheckpoint := true }))) ∧
  (∀ (s : State) (c : Creation) (rest : List EntryStore), s.log.creation = some c → c.entry.state = .opened →
    s.log.stores = .create :: rest →
    let made : State := { s with log := { s.log with
      ring := s.log.ring ++ [c.entry], stored := s.log.stored ++ [c.stored], counter := s.log.counter + 1,
      creation := none, own := s.log.own.set c.entry.disp (some c.entry.number), stores := rest } }
    exec .logEntryStoreComplete s =
      .next (made.testMarks.sendReply ⟨.ok, 0, .authorized c.entry.number c.entry.mLim c.entry.cap⟩)) ∧
  (∀ s : State,
    let n := s.log.ring.length
    let l := if 56 ≤ n ∧ s.log.nearFull = false then s.link.post .logNearFull .station n else s.link
    s.testMarks = { s with
      link := if 64 ≤ n ∧ s.log.full = false then l.post .logFull .station n else l,
      log := { s.log with nearFull := decide (56 ≤ n), full := decide (64 ≤ n) } }) ∧
  (∀ (s : State) (d : Four), s.log.ownEntry d = none → s.checkpoint d = s) ∧
  (∀ (s : State) (d : Four) (n : Nat) (e : LogEntry) (p : Sale) (f : Fill), s.log.own.get d = some n →
    findEntry n s.log.ring = some e → (s.meterRec d).sale = some p → (s.disp d).fill = some f →
    let m := (s.meterRec d).mass
    let e' : LogEntry := { e with
      mass := m, billed := min (amount m p.price) p.cap, startTime := some f.startTime,
      clockUnset := e.clockUnset || f.startUnset, p0 := f.p0,
      group := f.least.bind fun least =>
        f.snapshot.map fun sn => ((f.ramp.map (·.target)).getD least, sn.vehicle.comm),
      grade := f.admitted.map fun g => (g, f.downgrades.getD 0), fallback := f.fallback, usage := f.usage,
      held := f.usage.getLast?.elim false fun i => decide (s.banks.grant.get d = some i.bank) }
    s.checkpoint d =
      { s with log := { s.log with
        ring := s.log.ring.map fun x => if x.number = n then e' else x,
        checkpoints := s.log.checkpoints.set d (some
          (match s.log.checkpoints.get d with
           | none => ⟨e', none⟩
           | some w => { w with waiting := some e' })) } })
/-! ## The station supervisor -/

/-- A CFGWRITE that is taken is read back by CFGREAD (R188): the new working configuration reads the value written, for
every group, index and item but the station rank, whose write is a swap (R36). -/
def Obligations.WhatIsWrittenIsReadBack : Prop :=
  ∀ (w w' : WorkConfig) (group index item : Nat) (v : Word),
    itemBad group index item = none → ¬(group = 2 ∧ item = 1) →
    writeConfig w group index item v = .inr w' → readItem w' group index item = some v.toInt

/-- CFGWRITE's answers and effects, TARIFF WRITE, ACTSET, CFGSAVE and its store (R35, R107, R153, R185, R188, R189). A
write of the other groups sets the working value (R188); a SITE item beyond the link's, N_s and the enables only that; a
link item also starts supervision afresh (R12); an enable set for a latched cause, by CFGWRITE or by ACTSET of any
cause, takes a READY station to SHUTDOWN (R185); N_s cuts the start history, stops a deferral that is over and
recomputes one that is not (R62); E_max cuts the reserve (R77); a station rank is swapped with the bank that holds it,
both READY or ISOLATED and no fill in progress, and the cascades follow (R36). That the named bank's state is tested
before a write of the rank it already has is answered OK is the model's reading (Log 23), and so is that the relations
between items are judged at the owner's turn (Log 41). -/
def Obligations.ConfigurationIsWrittenAndSaved : Prop :=
  (∀ (s u : State) (g : Byte),
    let ok : Answer := ⟨.ok, 0, .none⟩
    (∀ (a b c : Byte) (v : Word), s.Offers 0x10 g ([a, b, c] ++ word4 v) u →
      (∀ n, itemBad a.toNat b.toNat c.toNat = some n →
        exec (.cfgwrite g a b c v) s = .next (u.sendReply ⟨.badValue, n, .none⟩)) ∧
      (itemBad a.toNat b.toNat c.toNat = none →
        (∀ n, writeConfig u.work a.toNat b.toNat c.toNat v = .inl n →
          exec (.cfgwrite g a b c v) s = .next (u.sendReply ⟨.badValue, n, .none⟩)) ∧
        (∀ w, writeConfig u.work a.toNat b.toNat c.toNat v = .inr w →
          (∀ d, a = 3 → b = Four.field d → (u.disp d).state ≠ .closed → (u.disp d).state ≠ .idle →
            exec (.cfgwrite g a b c v) s = .next (u.sendReply ⟨.notNow, 1, .none⟩)) ∧
          (∀ k, a = 2 → b = Four.field k → (u.bank k).state ≠ .ready → (u.bank k).state ≠ .isolated →
            exec (.cfgwrite g a b c v) s = .next (u.sendReply ⟨.notNow, 1, .none⟩)) ∧
          (5 ≤ a.toNat →
            exec (.cfgwrite g a b c v) s =
              .next (State.sendReply { u with sup := { u.sup with work := w } } ok))))) ∧
    (∀ (c : Byte) (hp mp : Word), c.toNat ≤ 7 → hp.toNat ≤ 999999 → mp.toNat ≤ 999999 →
      s.Offers 0x13 g ([c] ++ word4 hp ++ word4 mp) u →
      exec (.tariffWrite g c hp mp) s =
        .next (State.sendReply
          { u with sup := { u.sup with work := { u.work with
            tariffs := u.work.tariffs.set c.toNat ⟨hp.toNat, mp.toNat⟩ } } } ok)) ∧
    (∀ v : Byte, v.toNat ≤ 1 → s.Offers 0x07 g [6, v] u →
      (u.sup.station ≠ .ready ∨ u.sup.latches.compressor = false ∨ v = 0 →
        exec (.actset g 6 v) s =
          .next (State.sendReply
            { u with sup := { u.sup with work := { u.work with
              site := { u.work.site with enComp := decide (v = 1) } } } } ok)) ∧
      (u.sup.station = .ready → u.sup.latches.compressor = true → v = 1 →
        ∃ t, exec (.actset g 6 v) s = .next t ∧ t.sup.station = .shutdown ∧ t.work.site.enComp = true ∧
          t.Replies 0x07 g [6, v] ok)) ∧
    (∀ (c v : Byte) (k : FaultCause), k.code = c.toNat → v.toNat ≤ 1 → (k = .esd → v = 1) →
      s.Offers 0x07 g [c, v] u → ∃ site : SiteCfg,
        (∀ j, SiteCfg.enabled site j = if j = k then decide (v = 1) else SiteCfg.enabled u.work.site j) ∧
        site = { u.work.site with
          enGas := site.enGas, enValve := site.enValve, enOver := site.enOver, enMetro := site.enMetro,
          enComp := site.enComp } ∧
        let set : State := { u with sup := { u.sup with work := { u.work with site := site } } }
        (u.sup.station ≠ .ready ∨ u.sup.latches.get k = false ∨ v = 0 →
          exec (.actset g c v) s = .next (set.sendReply ok)) ∧
        (u.sup.station = .ready → u.sup.latches.get k = true → v = 1 →
          exec (.actset g c v) s = .next ((set.take [.shutdown k]).sendReply ok))) ∧
    (s.Offers 0x12 g [] u →
      exec (.cfgsave g) s =
        .next { u with
          sup := { u.sup with saving := some u.work },
          link := { u.link with buffer := some ⟨0x12, g, [], .storing⟩ } }) ∧
    (∀ w, s.sup.saving = some w →
      exec .cfgsaveStoreComplete s =
        .next (State.sendReply
          { s with sup := { s.sup with
            store := ⟨w, crc16 (Config.storeImage w)⟩, saving := none, configDefaulted := false } } ok))) ∧
  (∀ (s u : State) (g a b c : Byte) (v : Word) (w : WorkConfig), s.Offers 0x10 g ([a, b, c] ++ word4 v) u →
    itemBad a.toNat b.toNat c.toNat = none → writeConfig u.work a.toNat b.toNat c.toNat v = .inr w →
    let written : State := { u with sup := { u.sup with work := w } }
    let takes (t : State) := exec (.cfgwrite g a b c v) s = .next (t.sendReply ⟨.ok, 0, .none⟩)
    (a = 1 → c = 1 ∨ c = 2 →
      takes { written with link := { u.link with
        supervision := if w.site.linkTimeout = 0 then .off else .watching,
        supTimer := if w.site.linkTimeout = 0 then none else some (w.site.linkTimeout * 1000) } }) ∧
    (a = 1 → 3 ≤ c.toNat → c.toNat ≠ 7 → c.toNat < 19 → takes written) ∧
    (∀ k, a = 1 → (c, k) ∈ [((19 : Byte), FaultCause.gasAlarm), (20, .valveStuckOpen), (21, .bankOverpressure),
        (22, .metrology), (23, .compressor)] →
      (u.sup.station = .ready → u.sup.latches.get k = true → v = 1 → takes (written.take [.shutdown k])) ∧
      (u.sup.station ≠ .ready ∨ u.sup.latches.get k = false ∨ v = 0 → takes written)) ∧
    (a = 1 → c = 7 →
      let cut : State := { written with
        comp := { u.comp with ring := u.comp.ring.drop (u.comp.ring.length - v.toNat) } }
      let allows := cut.comp.ring.length < v.toNat ∨
        ∀ x, cut.comp.ring.head? = some x → 3600 ≤ (u.link.clock - x).toNat
      (u.comp.deferral = none → takes cut) ∧
      (u.comp.deferral ≠ none → allows →
        takes (State.evalStart { cut with comp := { cut.comp with deferral := none } })) ∧
      (∀ x, u.comp.deferral ≠ none → ¬allows → cut.comp.ring.head? = some x →
        takes { cut with comp := { cut.comp with
          deferral := some ((3600 - (u.link.clock - x).toNat) * 1000) } })) ∧
    (∀ k, a = 2 → b = Four.field k → c ≠ 1 → (u.bank k).state = .ready ∨ (u.bank k).state = .isolated →
      takes written) ∧
    (∀ d, a = 3 → b = Four.field d → (u.disp d).state = .closed ∨ (u.disp d).state = .idle → takes written) ∧
    (a = 4 →
      takes { written with precool := { u.precool with reserve := min u.precool.reserve w.precool.eMax } })) ∧
  (∀ (s u : State) (g : Byte) (b k : Four) (v : Word) (w' : WorkConfig),
    s.Offers 0x10 g ([2, Four.field b, 1] ++ word4 v) u →
    itemBad 2 (Four.field b).toNat 1 = none → writeConfig u.work 2 (Four.field b).toNat 1 v = .inr w' →
    (Four.all.find? fun x => decide ((u.bankCfg x).rank = v.toNat)) = some k →
    (u.bank b).state = .ready ∨ (u.bank b).state = .isolated →
    let write := exec (.cfgwrite g 2 (Four.field b) 1 v) s
    let free := (u.bank k).state = .ready ∨ (u.bank k).state = .isolated
    let moved := (u.bankCfg b).rank ≠ v.toNat
    (¬moved → write = .next (u.sendReply ⟨.ok, 0, .none⟩)) ∧
    (moved → ¬free → write = .next (u.sendReply ⟨.notNow, 1, .none⟩)) ∧
    (moved → free → u.anyFilling = true → write = .next (u.sendReply ⟨.notNow, 4, .none⟩)) ∧
    (moved → free → u.anyFilling = false → ∃ w,
      write = .next (State.sendReply { u with sup := { u.sup with work := w } } ⟨.ok, 0, .none⟩) ∧
      w = { u.work with banks := w.banks, disps := w.disps } ∧
      w.banks.get b = { u.bankCfg b with rank := v.toNat } ∧
      w.banks.get k = { u.bankCfg k with rank := (u.bankCfg b).rank } ∧
      (∀ x, x ≠ b → x ≠ k → w.banks.get x = u.bankCfg x) ∧
      ∀ d, w.disps.get d = { u.dispCfg d with cascade := (w.disps.get d).cascade } ∧
        (w.disps.get d).cascade.Perm (u.dispCfg d).cascade ∧
        (w.disps.get d).cascade.Pairwise fun x y => (w.banks.get x).rank ≤ (w.banks.get y).rank))
/-- RESET and RESUME (R187, R190). A forced RESET orders every dispenser to end with cause RESET (R128), 1 to 4 in turn
(the model's choice, Log 9). A RESUME that returns the station to READY posts STATION_RESUMED, and the compressor then
takes the entry into READY (R74) and its start conditions (R61). -/
def Obligations.ResetAndResumeAreTaken : Prop :=
  ∀ (s u : State) (g : Byte),
    let filling := ∃ d, (u.disp d).state.filling = true
    let gone := u.clearLatches
    (s.Offers 0x05 g [0] u →
      (filling → exec (.reset g 0) s = .next (u.sendReply ⟨.notNow, 4, .none⟩)) ∧
      (¬filling → u.sup.resetPending = false →
        exec (.reset g 0) s =
          .next (State.sendReply { u with sup := { u.sup with resetAsked := .asked } } ⟨.ok, 0, .none⟩))) ∧
    (s.Offers 0x05 g [1] u →
      (u.sup.resetPending = true → exec (.reset g 1) s = .next (u.sendReply ⟨.ok, 0, .none⟩)) ∧
      (u.sup.resetPending = false →
        exec (.reset g 1) s =
          .next ((State.take { u with sup := { u.sup with resetAsked := .asked, resetPending := true } }
            [.endCause .one .reset, .endCause .two .reset, .endCause .three .reset, .endCause .four .reset]).sendReply
            ⟨.ok, 0, .none⟩))) ∧
    (s.Offers 0x06 g [] u →
      (∀ c, gone.sup.latches.get c = (u.sup.latches.get c && u.faultPresent c)) ∧
      (∀ b, gone.sup.latches.overSet.get b = (u.sup.latches.overSet.get b && u.overpressureHolds b)) ∧
      gone = { u with sup := { u.sup with latches := gone.sup.latches } } ∧
      (u.sup.station = .ready → exec (.resume g) s = .next (gone.sendReply ⟨.ok, 0, .none⟩)) ∧
      (u.sup.station = .shutdown →
        (∀ c, gone.sup.latches.get c = true → SiteCfg.enabled gone.work.site c = true →
          exec (.resume g) s = .next (gone.sendReply ⟨.notNow, 6, .none⟩)) ∧
        ((∀ c, gone.sup.latches.get c = true → SiteCfg.enabled gone.work.site c = false) →
          let back : State := { gone with
            sup := { gone.sup with station := .ready }, link := gone.link.post .stationResumed .station 0 }
          ∃ t, exec (.resume g) s = .next t ∧ t.sup = { gone.sup with station := .ready } ∧
            t = back.compResume.evalStart.sendReply ⟨.ok, 0, .none⟩ ∧
            t.Replies 0x06 g [] ⟨.ok, 0, .none⟩)))

/-- POWER_ON, RESET_LINE and STATION_RESET (R9, R14, R22, R23, R26, R30, R31, R57, R76, R94, R106, R136, R165, R178,
R180, R190): what each kind leaves and what it keeps. STATION_RESET is a row of its own that acts only where its RESET
has been answered and, where forced, no fill is left and no close is still being stored (the model's choice, Log 13).
POWER_ON and RESET_LINE leave the factory defaults as working values until S1, both chiller stages OFF and the low mark
set; STATION_RESET keeps the working values, E, C, the stages and the low mark, and the thermal timer runs on. The parts
that no reset rule names are left as the model reads them (Log 29), and the levels at the contacts are the outside's. -/
def Obligations.ResetsLeaveWhatTheyKeep : Prop :=
  ∀ s : State,
    let due := s.sup.resetAsked = .answered ∧
      (s.sup.resetPending = false ∨
        ((∀ d, (s.disp d).state.filling = false ∧ (s.disp d).state ≠ .authorized) ∧
          ∀ e, EntryStore.close e ∉ s.log.stores))
    (∃ t, exec .powerOn s = .next t ∧ t.sup.resetKind = .powerOn ∧ t.link = resetLink ∧
      t.comp = resetCompressor ∧ t.precool = resetPrecool) ∧
    (∃ t, exec .resetLine s = .next t ∧ t.sup.resetKind = .resetLine ∧ t.link = resetLink ∧
      t.comp = resetCompressor ∧ t.precool = resetPrecool) ∧
    (∀ i ∈ [Instr.powerOn, .resetLine], ∃ t, exec i s = .next t ∧
      t.sup.station = .startUp .s1 ∧ t.sup.latches = noLatches ∧ t.sup.resetPending = false ∧
      t.sup.store = s.sup.store ∧ t.work = factoryConfig ∧ t.precool.reserve = 0 ∧ t.precool.charge = 0 ∧
      t.precool.stage1 = false ∧ t.precool.stage2 = false ∧ t.precool.lowMark = true ∧
      t.precool.table = .fill none ∧ t.precool.waitList = [] ∧ t.precool.thermal = some 1000 ∧
      t.disps = .fill resetDispenser ∧ t.banks = resetBanks ∧
      t.meter.cal = s.meter.cal ∧ t.meter.session = .none ∧ t.log.ring = s.log.stored ∧
      t.log.stored = s.log.stored ∧ t.log.counter = s.log.counter ∧ t.log.stores = []) ∧
    (due →
      ∃ t, exec .stationReset s = .next t ∧
        t.link =
          { resetLink with
            notices := s.link.notices, lost := s.link.lost, clock := s.link.clock, clockSet := s.link.clockSet } ∧
        t.sup.resetKind = .station ∧ t.sup.station = .startUp .s1 ∧ t.sup.latches = noLatches ∧
        t.sup.store = s.sup.store ∧ t.comp = { resetCompressor with ring := s.comp.ring } ∧
        t.work = s.work ∧
        t.precool.reserve = s.precool.reserve ∧ t.precool.charge = s.precool.charge ∧
        t.precool = { s.precool with table := .fill none, waitList := [] } ∧
        t.precool.table = .fill none ∧ t.disps = .fill resetDispenser ∧ t.banks = resetBanks ∧
        t.meter.cal = s.meter.cal ∧ t.meter.session = .none ∧
        t.log.ring = s.log.stored ∧ t.log.counter = s.log.counter) ∧
    (¬due → exec .stationReset s = .next s) ∧
    (∀ i t, i = Instr.powerOn ∨ i = .resetLine ∨ (i = .stationReset ∧ due) → exec i s = .next t →
      (∀ c, t.chan c = ⟨none, .invalid, 0, some (holdTime c), .notChecked⟩) ∧
      t.field.disagreeCount = .fill 0 ∧ t.field.disagree = .fill false ∧
      (∀ w, t.switch w = ⟨(s.switch w).pin, none, (s.switch w).pin, some 50⟩) ∧
      (∀ v, t.valve v =
        ⟨.closed, ⟨(s.valve v).feedback.pin, none, (s.valve v).feedback.pin, some 50⟩, .ok, none, false⟩) ∧
      t.field.pcv = .fill 0 ∧
      t.field.running = ⟨s.field.running.pin, none, s.field.running.pin, some 50⟩ ∧ t.sweepActive = false ∧
      t.receivers = .fill ⟨none, 0, none, .idle, 0, 0, 0, 0, 0⟩ ∧
      (∀ b, t.bank b = ⟨.ready, false, false, false, [], none⟩) ∧ t.banks.position = .fill none ∧
      t.banks.lag = .fill 0 ∧ t.banks.wait = .fill none ∧
      t.meter = ⟨.fill ⟨0, 0, 0, List.replicate 10 0, none, none⟩, some 100, s.meter.cal, .none, false⟩)
/-! ## Invariants of every step -/

/-- Every step keeps the notice queue within 32 (R8). -/
def Obligations.EveryStepKeepsTheNoticeQueue : Prop :=
  ∀ s t : State, s.noticesFit → step s = .next t → t.noticesFit

/-- Every step keeps the log in rising order below its counter, in the ring and in the store, and never lowers the
counter, so that no transaction number is given twice (R167, R168). -/
def Obligations.EveryStepKeepsTheLogInOrder : Prop :=
  ∀ s t : State, s.log.ordered → step s = .next t → t.log.ordered ∧ s.log.counter ≤ t.log.counter

/-- Every step keeps the cold reserve within E_max (R78, R82), and each setpoint within the highest ceiling, 87,500 kPa, with
the target of every ramp and of every waiting admission (R31, R138, R141, R145). -/
def Obligations.EveryStepKeepsReserveAndSetpoints : Prop :=
  (∀ s t : State, s.reserveFits → step s = .next t → t.reserveFits) ∧
  (∀ s t : State, s.setpointsWithin 87500 → step s = .next t → t.setpointsWithin 87500)

/-- The calibration record changes by CAL_CLOSE_STORE_COMPLETE alone, the configuration store by CFGSAVE_STORE_COMPLETE
alone, and every step keeps the calibration record in agreement with its check value (R160, R164, R189). -/
def Obligations.TheSealedRecordsAreKept : Prop :=
  (∀ s t : State, s.calibrationSound → step s = .next t → t.calibrationSound) ∧
  (∀ (i : Instr) (s t : State), exec i s = .next t → i ≠ .calCloseStoreComplete → t.meter.cal = s.meter.cal) ∧
  (∀ (i : Instr) (s t : State), exec i s = .next t → i ≠ .cfgsaveStoreComplete → t.sup.store = s.sup.store)

/-- The state after reset meets every invariant that the steps keep, and stands as the rules say: in START_UP at S1, every
dispenser CLOSED, every bank READY, the compressor IDLE, an empty log with counter 1, no notice and no command waiting. -/
def Obligations.ResetMeetsTheInvariants : Prop :=
  State.reset.noticesFit ∧ State.reset.log.ordered ∧ State.reset.reserveFits ∧ State.reset.setpointsWithin 87500 ∧
  State.reset.calibrationSound ∧ State.reset.sup.station = .startUp .s1 ∧
  (∀ d, (State.reset.disp d).state = .closed) ∧ (∀ b, (State.reset.bank b).state = .ready) ∧
  State.reset.comp.state = .idle ∧ State.reset.log.ring = [] ∧ State.reset.log.counter = 1 ∧
  State.reset.link.notices = [] ∧ State.reset.pending = []
end

