-- ==== Sys2Proof/Laws/State.lean ====
section
/-!
SUPPORT. One lemma for each part of the state under each named update: the part that the update changes, and the parts
that it leaves alone.
-/

namespace Sys2Proof.Machine

namespace State

variable (s : State)

@[simp] theorem modLink_link (f : Link → Link) : (s.modLink f).link = f s.link := rfl
@[simp] theorem modLink_field (f : Link → Link) : (s.modLink f).field = s.field := rfl
@[simp] theorem modLink_banks (f : Link → Link) : (s.modLink f).banks = s.banks := rfl
@[simp] theorem modLink_comp (f : Link → Link) : (s.modLink f).comp = s.comp := rfl
@[simp] theorem modLink_precool (f : Link → Link) : (s.modLink f).precool = s.precool := rfl
@[simp] theorem modLink_receivers (f : Link → Link) : (s.modLink f).receivers = s.receivers := rfl
@[simp] theorem modLink_disps (f : Link → Link) : (s.modLink f).disps = s.disps := rfl
@[simp] theorem modLink_meter (f : Link → Link) : (s.modLink f).meter = s.meter := rfl
@[simp] theorem modLink_log (f : Link → Link) : (s.modLink f).log = s.log := rfl
@[simp] theorem modLink_sup (f : Link → Link) : (s.modLink f).sup = s.sup := rfl
@[simp] theorem modLink_freeIx (f : Link → Link) : (s.modLink f).freeIx = s.freeIx := rfl
@[simp] theorem modLink_pending (f : Link → Link) : (s.modLink f).pending = s.pending := rfl

@[simp] theorem modField_link (f : Field → Field) : (s.modField f).link = s.link := rfl
@[simp] theorem modField_field (f : Field → Field) : (s.modField f).field = f s.field := rfl
@[simp] theorem modField_banks (f : Field → Field) : (s.modField f).banks = s.banks := rfl
@[simp] theorem modField_comp (f : Field → Field) : (s.modField f).comp = s.comp := rfl
@[simp] theorem modField_precool (f : Field → Field) : (s.modField f).precool = s.precool := rfl
@[simp] theorem modField_receivers (f : Field → Field) : (s.modField f).receivers = s.receivers := rfl
@[simp] theorem modField_disps (f : Field → Field) : (s.modField f).disps = s.disps := rfl
@[simp] theorem modField_meter (f : Field → Field) : (s.modField f).meter = s.meter := rfl
@[simp] theorem modField_log (f : Field → Field) : (s.modField f).log = s.log := rfl
@[simp] theorem modField_sup (f : Field → Field) : (s.modField f).sup = s.sup := rfl
@[simp] theorem modField_freeIx (f : Field → Field) : (s.modField f).freeIx = s.freeIx := rfl
@[simp] theorem modField_pending (f : Field → Field) : (s.modField f).pending = s.pending := rfl

@[simp] theorem modBanks_link (f : Banks → Banks) : (s.modBanks f).link = s.link := rfl
@[simp] theorem modBanks_field (f : Banks → Banks) : (s.modBanks f).field = s.field := rfl
@[simp] theorem modBanks_banks (f : Banks → Banks) : (s.modBanks f).banks = f s.banks := rfl
@[simp] theorem modBanks_comp (f : Banks → Banks) : (s.modBanks f).comp = s.comp := rfl
@[simp] theorem modBanks_precool (f : Banks → Banks) : (s.modBanks f).precool = s.precool := rfl
@[simp] theorem modBanks_receivers (f : Banks → Banks) : (s.modBanks f).receivers = s.receivers := rfl
@[simp] theorem modBanks_disps (f : Banks → Banks) : (s.modBanks f).disps = s.disps := rfl
@[simp] theorem modBanks_meter (f : Banks → Banks) : (s.modBanks f).meter = s.meter := rfl
@[simp] theorem modBanks_log (f : Banks → Banks) : (s.modBanks f).log = s.log := rfl
@[simp] theorem modBanks_sup (f : Banks → Banks) : (s.modBanks f).sup = s.sup := rfl
@[simp] theorem modBanks_freeIx (f : Banks → Banks) : (s.modBanks f).freeIx = s.freeIx := rfl
@[simp] theorem modBanks_pending (f : Banks → Banks) : (s.modBanks f).pending = s.pending := rfl

@[simp] theorem modBank_link (b : Four) (f : BankRec → BankRec) : (s.modBank b f).link = s.link := rfl
@[simp] theorem modBank_field (b : Four) (f : BankRec → BankRec) : (s.modBank b f).field = s.field := rfl
@[simp] theorem modBank_banks (b : Four) (f : BankRec → BankRec) : (s.modBank b f).banks = { s.banks with recs := s.banks.recs.modify b f } := rfl
@[simp] theorem modBank_comp (b : Four) (f : BankRec → BankRec) : (s.modBank b f).comp = s.comp := rfl
@[simp] theorem modBank_precool (b : Four) (f : BankRec → BankRec) : (s.modBank b f).precool = s.precool := rfl
@[simp] theorem modBank_receivers (b : Four) (f : BankRec → BankRec) : (s.modBank b f).receivers = s.receivers := rfl
@[simp] theorem modBank_disps (b : Four) (f : BankRec → BankRec) : (s.modBank b f).disps = s.disps := rfl
@[simp] theorem modBank_meter (b : Four) (f : BankRec → BankRec) : (s.modBank b f).meter = s.meter := rfl
@[simp] theorem modBank_log (b : Four) (f : BankRec → BankRec) : (s.modBank b f).log = s.log := rfl
@[simp] theorem modBank_sup (b : Four) (f : BankRec → BankRec) : (s.modBank b f).sup = s.sup := rfl
@[simp] theorem modBank_freeIx (b : Four) (f : BankRec → BankRec) : (s.modBank b f).freeIx = s.freeIx := rfl
@[simp] theorem modBank_pending (b : Four) (f : BankRec → BankRec) : (s.modBank b f).pending = s.pending := rfl

@[simp] theorem modComp_link (f : Compressor → Compressor) : (s.modComp f).link = s.link := rfl
@[simp] theorem modComp_field (f : Compressor → Compressor) : (s.modComp f).field = s.field := rfl
@[simp] theorem modComp_banks (f : Compressor → Compressor) : (s.modComp f).banks = s.banks := rfl
@[simp] theorem modComp_comp (f : Compressor → Compressor) : (s.modComp f).comp = f s.comp := rfl
@[simp] theorem modComp_precool (f : Compressor → Compressor) : (s.modComp f).precool = s.precool := rfl
@[simp] theorem modComp_receivers (f : Compressor → Compressor) : (s.modComp f).receivers = s.receivers := rfl
@[simp] theorem modComp_disps (f : Compressor → Compressor) : (s.modComp f).disps = s.disps := rfl
@[simp] theorem modComp_meter (f : Compressor → Compressor) : (s.modComp f).meter = s.meter := rfl
@[simp] theorem modComp_log (f : Compressor → Compressor) : (s.modComp f).log = s.log := rfl
@[simp] theorem modComp_sup (f : Compressor → Compressor) : (s.modComp f).sup = s.sup := rfl
@[simp] theorem modComp_freeIx (f : Compressor → Compressor) : (s.modComp f).freeIx = s.freeIx := rfl
@[simp] theorem modComp_pending (f : Compressor → Compressor) : (s.modComp f).pending = s.pending := rfl

@[simp] theorem modPrecool_link (f : Precool → Precool) : (s.modPrecool f).link = s.link := rfl
@[simp] theorem modPrecool_field (f : Precool → Precool) : (s.modPrecool f).field = s.field := rfl
@[simp] theorem modPrecool_banks (f : Precool → Precool) : (s.modPrecool f).banks = s.banks := rfl
@[simp] theorem modPrecool_comp (f : Precool → Precool) : (s.modPrecool f).comp = s.comp := rfl
@[simp] theorem modPrecool_precool (f : Precool → Precool) : (s.modPrecool f).precool = f s.precool := rfl
@[simp] theorem modPrecool_receivers (f : Precool → Precool) : (s.modPrecool f).receivers = s.receivers := rfl
@[simp] theorem modPrecool_disps (f : Precool → Precool) : (s.modPrecool f).disps = s.disps := rfl
@[simp] theorem modPrecool_meter (f : Precool → Precool) : (s.modPrecool f).meter = s.meter := rfl
@[simp] theorem modPrecool_log (f : Precool → Precool) : (s.modPrecool f).log = s.log := rfl
@[simp] theorem modPrecool_sup (f : Precool → Precool) : (s.modPrecool f).sup = s.sup := rfl
@[simp] theorem modPrecool_freeIx (f : Precool → Precool) : (s.modPrecool f).freeIx = s.freeIx := rfl
@[simp] theorem modPrecool_pending (f : Precool → Precool) : (s.modPrecool f).pending = s.pending := rfl

@[simp] theorem modReceiver_link (d : Four) (f : VehicleReceiver → VehicleReceiver) : (s.modReceiver d f).link = s.link := rfl
@[simp] theorem modReceiver_field (d : Four) (f : VehicleReceiver → VehicleReceiver) : (s.modReceiver d f).field = s.field := rfl
@[simp] theorem modReceiver_banks (d : Four) (f : VehicleReceiver → VehicleReceiver) : (s.modReceiver d f).banks = s.banks := rfl
@[simp] theorem modReceiver_comp (d : Four) (f : VehicleReceiver → VehicleReceiver) : (s.modReceiver d f).comp = s.comp := rfl
@[simp] theorem modReceiver_precool (d : Four) (f : VehicleReceiver → VehicleReceiver) : (s.modReceiver d f).precool = s.precool := rfl
@[simp] theorem modReceiver_receivers (d : Four) (f : VehicleReceiver → VehicleReceiver) : (s.modReceiver d f).receivers = s.receivers.modify d f := rfl
@[simp] theorem modReceiver_disps (d : Four) (f : VehicleReceiver → VehicleReceiver) : (s.modReceiver d f).disps = s.disps := rfl
@[simp] theorem modReceiver_meter (d : Four) (f : VehicleReceiver → VehicleReceiver) : (s.modReceiver d f).meter = s.meter := rfl
@[simp] theorem modReceiver_log (d : Four) (f : VehicleReceiver → VehicleReceiver) : (s.modReceiver d f).log = s.log := rfl
@[simp] theorem modReceiver_sup (d : Four) (f : VehicleReceiver → VehicleReceiver) : (s.modReceiver d f).sup = s.sup := rfl
@[simp] theorem modReceiver_freeIx (d : Four) (f : VehicleReceiver → VehicleReceiver) : (s.modReceiver d f).freeIx = s.freeIx := rfl
@[simp] theorem modReceiver_pending (d : Four) (f : VehicleReceiver → VehicleReceiver) : (s.modReceiver d f).pending = s.pending := rfl

@[simp] theorem modDisp_link (d : Four) (f : Dispenser → Dispenser) : (s.modDisp d f).link = s.link := rfl
@[simp] theorem modDisp_field (d : Four) (f : Dispenser → Dispenser) : (s.modDisp d f).field = s.field := rfl
@[simp] theorem modDisp_banks (d : Four) (f : Dispenser → Dispenser) : (s.modDisp d f).banks = s.banks := rfl
@[simp] theorem modDisp_comp (d : Four) (f : Dispenser → Dispenser) : (s.modDisp d f).comp = s.comp := rfl
@[simp] theorem modDisp_precool (d : Four) (f : Dispenser → Dispenser) : (s.modDisp d f).precool = s.precool := rfl
@[simp] theorem modDisp_receivers (d : Four) (f : Dispenser → Dispenser) : (s.modDisp d f).receivers = s.receivers := rfl
@[simp] theorem modDisp_disps (d : Four) (f : Dispenser → Dispenser) : (s.modDisp d f).disps = s.disps.modify d f := rfl
@[simp] theorem modDisp_meter (d : Four) (f : Dispenser → Dispenser) : (s.modDisp d f).meter = s.meter := rfl
@[simp] theorem modDisp_log (d : Four) (f : Dispenser → Dispenser) : (s.modDisp d f).log = s.log := rfl
@[simp] theorem modDisp_sup (d : Four) (f : Dispenser → Dispenser) : (s.modDisp d f).sup = s.sup := rfl
@[simp] theorem modDisp_freeIx (d : Four) (f : Dispenser → Dispenser) : (s.modDisp d f).freeIx = s.freeIx := rfl
@[simp] theorem modDisp_pending (d : Four) (f : Dispenser → Dispenser) : (s.modDisp d f).pending = s.pending := rfl

@[simp] theorem modFill_link (d : Four) (f : Fill → Fill) : (s.modFill d f).link = s.link := rfl
@[simp] theorem modFill_field (d : Four) (f : Fill → Fill) : (s.modFill d f).field = s.field := rfl
@[simp] theorem modFill_banks (d : Four) (f : Fill → Fill) : (s.modFill d f).banks = s.banks := rfl
@[simp] theorem modFill_comp (d : Four) (f : Fill → Fill) : (s.modFill d f).comp = s.comp := rfl
@[simp] theorem modFill_precool (d : Four) (f : Fill → Fill) : (s.modFill d f).precool = s.precool := rfl
@[simp] theorem modFill_receivers (d : Four) (f : Fill → Fill) : (s.modFill d f).receivers = s.receivers := rfl
@[simp] theorem modFill_meter (d : Four) (f : Fill → Fill) : (s.modFill d f).meter = s.meter := rfl
@[simp] theorem modFill_log (d : Four) (f : Fill → Fill) : (s.modFill d f).log = s.log := rfl
@[simp] theorem modFill_sup (d : Four) (f : Fill → Fill) : (s.modFill d f).sup = s.sup := rfl
@[simp] theorem modFill_freeIx (d : Four) (f : Fill → Fill) : (s.modFill d f).freeIx = s.freeIx := rfl
@[simp] theorem modFill_pending (d : Four) (f : Fill → Fill) : (s.modFill d f).pending = s.pending := rfl

@[simp] theorem modTimers_link (d : Four) (f : DispTimers → DispTimers) : (s.modTimers d f).link = s.link := rfl
@[simp] theorem modTimers_field (d : Four) (f : DispTimers → DispTimers) : (s.modTimers d f).field = s.field := rfl
@[simp] theorem modTimers_banks (d : Four) (f : DispTimers → DispTimers) : (s.modTimers d f).banks = s.banks := rfl
@[simp] theorem modTimers_comp (d : Four) (f : DispTimers → DispTimers) : (s.modTimers d f).comp = s.comp := rfl
@[simp] theorem modTimers_precool (d : Four) (f : DispTimers → DispTimers) : (s.modTimers d f).precool = s.precool := rfl
@[simp] theorem modTimers_receivers (d : Four) (f : DispTimers → DispTimers) : (s.modTimers d f).receivers = s.receivers := rfl
@[simp] theorem modTimers_meter (d : Four) (f : DispTimers → DispTimers) : (s.modTimers d f).meter = s.meter := rfl
@[simp] theorem modTimers_log (d : Four) (f : DispTimers → DispTimers) : (s.modTimers d f).log = s.log := rfl
@[simp] theorem modTimers_sup (d : Four) (f : DispTimers → DispTimers) : (s.modTimers d f).sup = s.sup := rfl
@[simp] theorem modTimers_freeIx (d : Four) (f : DispTimers → DispTimers) : (s.modTimers d f).freeIx = s.freeIx := rfl
@[simp] theorem modTimers_pending (d : Four) (f : DispTimers → DispTimers) : (s.modTimers d f).pending = s.pending := rfl

@[simp] theorem modMeter_link (f : Meter → Meter) : (s.modMeter f).link = s.link := rfl
@[simp] theorem modMeter_field (f : Meter → Meter) : (s.modMeter f).field = s.field := rfl
@[simp] theorem modMeter_banks (f : Meter → Meter) : (s.modMeter f).banks = s.banks := rfl
@[simp] theorem modMeter_comp (f : Meter → Meter) : (s.modMeter f).comp = s.comp := rfl
@[simp] theorem modMeter_precool (f : Meter → Meter) : (s.modMeter f).precool = s.precool := rfl
@[simp] theorem modMeter_receivers (f : Meter → Meter) : (s.modMeter f).receivers = s.receivers := rfl
@[simp] theorem modMeter_disps (f : Meter → Meter) : (s.modMeter f).disps = s.disps := rfl
@[simp] theorem modMeter_meter (f : Meter → Meter) : (s.modMeter f).meter = f s.meter := rfl
@[simp] theorem modMeter_log (f : Meter → Meter) : (s.modMeter f).log = s.log := rfl
@[simp] theorem modMeter_sup (f : Meter → Meter) : (s.modMeter f).sup = s.sup := rfl
@[simp] theorem modMeter_freeIx (f : Meter → Meter) : (s.modMeter f).freeIx = s.freeIx := rfl
@[simp] theorem modMeter_pending (f : Meter → Meter) : (s.modMeter f).pending = s.pending := rfl

@[simp] theorem modMeterRec_link (d : Four) (f : MeterRec → MeterRec) : (s.modMeterRec d f).link = s.link := rfl
@[simp] theorem modMeterRec_field (d : Four) (f : MeterRec → MeterRec) : (s.modMeterRec d f).field = s.field := rfl
@[simp] theorem modMeterRec_banks (d : Four) (f : MeterRec → MeterRec) : (s.modMeterRec d f).banks = s.banks := rfl
@[simp] theorem modMeterRec_comp (d : Four) (f : MeterRec → MeterRec) : (s.modMeterRec d f).comp = s.comp := rfl
@[simp] theorem modMeterRec_precool (d : Four) (f : MeterRec → MeterRec) : (s.modMeterRec d f).precool = s.precool := rfl
@[simp] theorem modMeterRec_receivers (d : Four) (f : MeterRec → MeterRec) : (s.modMeterRec d f).receivers = s.receivers := rfl
@[simp] theorem modMeterRec_disps (d : Four) (f : MeterRec → MeterRec) : (s.modMeterRec d f).disps = s.disps := rfl
@[simp] theorem modMeterRec_meter (d : Four) (f : MeterRec → MeterRec) : (s.modMeterRec d f).meter = { s.meter with recs := s.meter.recs.modify d f } := rfl
@[simp] theorem modMeterRec_log (d : Four) (f : MeterRec → MeterRec) : (s.modMeterRec d f).log = s.log := rfl
@[simp] theorem modMeterRec_sup (d : Four) (f : MeterRec → MeterRec) : (s.modMeterRec d f).sup = s.sup := rfl
@[simp] theorem modMeterRec_freeIx (d : Four) (f : MeterRec → MeterRec) : (s.modMeterRec d f).freeIx = s.freeIx := rfl
@[simp] theorem modMeterRec_pending (d : Four) (f : MeterRec → MeterRec) : (s.modMeterRec d f).pending = s.pending := rfl

@[simp] theorem modLog_link (f : TransLog → TransLog) : (s.modLog f).link = s.link := rfl
@[simp] theorem modLog_field (f : TransLog → TransLog) : (s.modLog f).field = s.field := rfl
@[simp] theorem modLog_banks (f : TransLog → TransLog) : (s.modLog f).banks = s.banks := rfl
@[simp] theorem modLog_comp (f : TransLog → TransLog) : (s.modLog f).comp = s.comp := rfl
@[simp] theorem modLog_precool (f : TransLog → TransLog) : (s.modLog f).precool = s.precool := rfl
@[simp] theorem modLog_receivers (f : TransLog → TransLog) : (s.modLog f).receivers = s.receivers := rfl
@[simp] theorem modLog_disps (f : TransLog → TransLog) : (s.modLog f).disps = s.disps := rfl
@[simp] theorem modLog_meter (f : TransLog → TransLog) : (s.modLog f).meter = s.meter := rfl
@[simp] theorem modLog_log (f : TransLog → TransLog) : (s.modLog f).log = f s.log := rfl
@[simp] theorem modLog_sup (f : TransLog → TransLog) : (s.modLog f).sup = s.sup := rfl
@[simp] theorem modLog_freeIx (f : TransLog → TransLog) : (s.modLog f).freeIx = s.freeIx := rfl
@[simp] theorem modLog_pending (f : TransLog → TransLog) : (s.modLog f).pending = s.pending := rfl

@[simp] theorem modSup_link (f : Supervisor → Supervisor) : (s.modSup f).link = s.link := rfl
@[simp] theorem modSup_field (f : Supervisor → Supervisor) : (s.modSup f).field = s.field := rfl
@[simp] theorem modSup_banks (f : Supervisor → Supervisor) : (s.modSup f).banks = s.banks := rfl
@[simp] theorem modSup_comp (f : Supervisor → Supervisor) : (s.modSup f).comp = s.comp := rfl
@[simp] theorem modSup_precool (f : Supervisor → Supervisor) : (s.modSup f).precool = s.precool := rfl
@[simp] theorem modSup_receivers (f : Supervisor → Supervisor) : (s.modSup f).receivers = s.receivers := rfl
@[simp] theorem modSup_disps (f : Supervisor → Supervisor) : (s.modSup f).disps = s.disps := rfl
@[simp] theorem modSup_meter (f : Supervisor → Supervisor) : (s.modSup f).meter = s.meter := rfl
@[simp] theorem modSup_log (f : Supervisor → Supervisor) : (s.modSup f).log = s.log := rfl
@[simp] theorem modSup_sup (f : Supervisor → Supervisor) : (s.modSup f).sup = f s.sup := rfl
@[simp] theorem modSup_freeIx (f : Supervisor → Supervisor) : (s.modSup f).freeIx = s.freeIx := rfl
@[simp] theorem modSup_pending (f : Supervisor → Supervisor) : (s.modSup f).pending = s.pending := rfl

@[simp] theorem post_link (k : NoticeKind) (c : Source) (n : Nat) : (s.post k c n).link = s.link.post k c n := rfl
@[simp] theorem post_field (k : NoticeKind) (c : Source) (n : Nat) : (s.post k c n).field = s.field := rfl
@[simp] theorem post_banks (k : NoticeKind) (c : Source) (n : Nat) : (s.post k c n).banks = s.banks := rfl
@[simp] theorem post_comp (k : NoticeKind) (c : Source) (n : Nat) : (s.post k c n).comp = s.comp := rfl
@[simp] theorem post_precool (k : NoticeKind) (c : Source) (n : Nat) : (s.post k c n).precool = s.precool := rfl
@[simp] theorem post_receivers (k : NoticeKind) (c : Source) (n : Nat) : (s.post k c n).receivers = s.receivers := rfl
@[simp] theorem post_disps (k : NoticeKind) (c : Source) (n : Nat) : (s.post k c n).disps = s.disps := rfl
@[simp] theorem post_meter (k : NoticeKind) (c : Source) (n : Nat) : (s.post k c n).meter = s.meter := rfl
@[simp] theorem post_log (k : NoticeKind) (c : Source) (n : Nat) : (s.post k c n).log = s.log := rfl
@[simp] theorem post_sup (k : NoticeKind) (c : Source) (n : Nat) : (s.post k c n).sup = s.sup := rfl
@[simp] theorem post_freeIx (k : NoticeKind) (c : Source) (n : Nat) : (s.post k c n).freeIx = s.freeIx := rfl
@[simp] theorem post_pending (k : NoticeKind) (c : Source) (n : Nat) : (s.post k c n).pending = s.pending := rfl

@[simp] theorem setChan_link (c : Channel) (r : ChanRec) : (s.setChan c r).link = s.link := rfl
@[simp] theorem setChan_field (c : Channel) (r : ChanRec) : (s.setChan c r).field = { s.field with chans := s.field.chans.set c r } := rfl
@[simp] theorem setChan_banks (c : Channel) (r : ChanRec) : (s.setChan c r).banks = s.banks := rfl
@[simp] theorem setChan_comp (c : Channel) (r : ChanRec) : (s.setChan c r).comp = s.comp := rfl
@[simp] theorem setChan_precool (c : Channel) (r : ChanRec) : (s.setChan c r).precool = s.precool := rfl
@[simp] theorem setChan_receivers (c : Channel) (r : ChanRec) : (s.setChan c r).receivers = s.receivers := rfl
@[simp] theorem setChan_disps (c : Channel) (r : ChanRec) : (s.setChan c r).disps = s.disps := rfl
@[simp] theorem setChan_meter (c : Channel) (r : ChanRec) : (s.setChan c r).meter = s.meter := rfl
@[simp] theorem setChan_log (c : Channel) (r : ChanRec) : (s.setChan c r).log = s.log := rfl
@[simp] theorem setChan_sup (c : Channel) (r : ChanRec) : (s.setChan c r).sup = s.sup := rfl
@[simp] theorem setChan_freeIx (c : Channel) (r : ChanRec) : (s.setChan c r).freeIx = s.freeIx := rfl
@[simp] theorem setChan_pending (c : Channel) (r : ChanRec) : (s.setChan c r).pending = s.pending := rfl

@[simp] theorem setSwitch_link (i : Switch) (r : SwitchRec) : (s.setSwitch i r).link = s.link := rfl
@[simp] theorem setSwitch_field (i : Switch) (r : SwitchRec) : (s.setSwitch i r).field = { s.field with switches := s.field.switches.set i r } := rfl
@[simp] theorem setSwitch_banks (i : Switch) (r : SwitchRec) : (s.setSwitch i r).banks = s.banks := rfl
@[simp] theorem setSwitch_comp (i : Switch) (r : SwitchRec) : (s.setSwitch i r).comp = s.comp := rfl
@[simp] theorem setSwitch_precool (i : Switch) (r : SwitchRec) : (s.setSwitch i r).precool = s.precool := rfl
@[simp] theorem setSwitch_receivers (i : Switch) (r : SwitchRec) : (s.setSwitch i r).receivers = s.receivers := rfl
@[simp] theorem setSwitch_disps (i : Switch) (r : SwitchRec) : (s.setSwitch i r).disps = s.disps := rfl
@[simp] theorem setSwitch_meter (i : Switch) (r : SwitchRec) : (s.setSwitch i r).meter = s.meter := rfl
@[simp] theorem setSwitch_log (i : Switch) (r : SwitchRec) : (s.setSwitch i r).log = s.log := rfl
@[simp] theorem setSwitch_sup (i : Switch) (r : SwitchRec) : (s.setSwitch i r).sup = s.sup := rfl
@[simp] theorem setSwitch_freeIx (i : Switch) (r : SwitchRec) : (s.setSwitch i r).freeIx = s.freeIx := rfl
@[simp] theorem setSwitch_pending (i : Switch) (r : SwitchRec) : (s.setSwitch i r).pending = s.pending := rfl

@[simp] theorem setValve_link (i : Valve) (r : ValveRec) : (s.setValve i r).link = s.link := rfl
@[simp] theorem setValve_field (i : Valve) (r : ValveRec) : (s.setValve i r).field = { s.field with valves := s.field.valves.set i r } := rfl
@[simp] theorem setValve_banks (i : Valve) (r : ValveRec) : (s.setValve i r).banks = s.banks := rfl
@[simp] theorem setValve_comp (i : Valve) (r : ValveRec) : (s.setValve i r).comp = s.comp := rfl
@[simp] theorem setValve_precool (i : Valve) (r : ValveRec) : (s.setValve i r).precool = s.precool := rfl
@[simp] theorem setValve_receivers (i : Valve) (r : ValveRec) : (s.setValve i r).receivers = s.receivers := rfl
@[simp] theorem setValve_disps (i : Valve) (r : ValveRec) : (s.setValve i r).disps = s.disps := rfl
@[simp] theorem setValve_meter (i : Valve) (r : ValveRec) : (s.setValve i r).meter = s.meter := rfl
@[simp] theorem setValve_log (i : Valve) (r : ValveRec) : (s.setValve i r).log = s.log := rfl
@[simp] theorem setValve_sup (i : Valve) (r : ValveRec) : (s.setValve i r).sup = s.sup := rfl
@[simp] theorem setValve_freeIx (i : Valve) (r : ValveRec) : (s.setValve i r).freeIx = s.freeIx := rfl
@[simp] theorem setValve_pending (i : Valve) (r : ValveRec) : (s.setValve i r).pending = s.pending := rfl

@[simp] theorem command_link (i : Valve) (l : Level) : (s.command i l).link = s.link := rfl
@[simp] theorem command_banks (i : Valve) (l : Level) : (s.command i l).banks = s.banks := rfl
@[simp] theorem command_comp (i : Valve) (l : Level) : (s.command i l).comp = s.comp := rfl
@[simp] theorem command_precool (i : Valve) (l : Level) : (s.command i l).precool = s.precool := rfl
@[simp] theorem command_receivers (i : Valve) (l : Level) : (s.command i l).receivers = s.receivers := rfl
@[simp] theorem command_disps (i : Valve) (l : Level) : (s.command i l).disps = s.disps := rfl
@[simp] theorem command_meter (i : Valve) (l : Level) : (s.command i l).meter = s.meter := rfl
@[simp] theorem command_log (i : Valve) (l : Level) : (s.command i l).log = s.log := rfl
@[simp] theorem command_sup (i : Valve) (l : Level) : (s.command i l).sup = s.sup := rfl
@[simp] theorem command_freeIx (i : Valve) (l : Level) : (s.command i l).freeIx = s.freeIx := rfl
@[simp] theorem command_pending (i : Valve) (l : Level) : (s.command i l).pending = s.pending := rfl

@[simp] theorem setPcv_link (d : Four) (p : Nat) : (s.setPcv d p).link = s.link := rfl
@[simp] theorem setPcv_field (d : Four) (p : Nat) : (s.setPcv d p).field = { s.field with pcv := s.field.pcv.set d p } := rfl
@[simp] theorem setPcv_banks (d : Four) (p : Nat) : (s.setPcv d p).banks = s.banks := rfl
@[simp] theorem setPcv_comp (d : Four) (p : Nat) : (s.setPcv d p).comp = s.comp := rfl
@[simp] theorem setPcv_precool (d : Four) (p : Nat) : (s.setPcv d p).precool = s.precool := rfl
@[simp] theorem setPcv_receivers (d : Four) (p : Nat) : (s.setPcv d p).receivers = s.receivers := rfl
@[simp] theorem setPcv_disps (d : Four) (p : Nat) : (s.setPcv d p).disps = s.disps := rfl
@[simp] theorem setPcv_meter (d : Four) (p : Nat) : (s.setPcv d p).meter = s.meter := rfl
@[simp] theorem setPcv_log (d : Four) (p : Nat) : (s.setPcv d p).log = s.log := rfl
@[simp] theorem setPcv_sup (d : Four) (p : Nat) : (s.setPcv d p).sup = s.sup := rfl
@[simp] theorem setPcv_freeIx (d : Four) (p : Nat) : (s.setPcv d p).freeIx = s.freeIx := rfl
@[simp] theorem setPcv_pending (d : Four) (p : Nat) : (s.setPcv d p).pending = s.pending := rfl

@[simp] theorem sendReply_field (a : Answer) : (s.sendReply a).field = s.field := rfl
@[simp] theorem sendReply_banks (a : Answer) : (s.sendReply a).banks = s.banks := rfl
@[simp] theorem sendReply_comp (a : Answer) : (s.sendReply a).comp = s.comp := rfl
@[simp] theorem sendReply_precool (a : Answer) : (s.sendReply a).precool = s.precool := rfl
@[simp] theorem sendReply_receivers (a : Answer) : (s.sendReply a).receivers = s.receivers := rfl
@[simp] theorem sendReply_disps (a : Answer) : (s.sendReply a).disps = s.disps := rfl
@[simp] theorem sendReply_meter (a : Answer) : (s.sendReply a).meter = s.meter := rfl
@[simp] theorem sendReply_log (a : Answer) : (s.sendReply a).log = s.log := rfl
@[simp] theorem sendReply_sup (a : Answer) : (s.sendReply a).sup = s.sup := rfl
@[simp] theorem sendReply_freeIx (a : Answer) : (s.sendReply a).freeIx = s.freeIx := rfl
@[simp] theorem sendReply_pending (a : Answer) : (s.sendReply a).pending = s.pending := rfl

@[simp] theorem holdRequest_field (k g : Byte) (y : List Byte) (v : Service) : (s.holdRequest k g y v).field = s.field := rfl
@[simp] theorem holdRequest_banks (k g : Byte) (y : List Byte) (v : Service) : (s.holdRequest k g y v).banks = s.banks := rfl
@[simp] theorem holdRequest_comp (k g : Byte) (y : List Byte) (v : Service) : (s.holdRequest k g y v).comp = s.comp := rfl
@[simp] theorem holdRequest_precool (k g : Byte) (y : List Byte) (v : Service) : (s.holdRequest k g y v).precool = s.precool := rfl
@[simp] theorem holdRequest_receivers (k g : Byte) (y : List Byte) (v : Service) : (s.holdRequest k g y v).receivers = s.receivers := rfl
@[simp] theorem holdRequest_disps (k g : Byte) (y : List Byte) (v : Service) : (s.holdRequest k g y v).disps = s.disps := rfl
@[simp] theorem holdRequest_meter (k g : Byte) (y : List Byte) (v : Service) : (s.holdRequest k g y v).meter = s.meter := rfl
@[simp] theorem holdRequest_log (k g : Byte) (y : List Byte) (v : Service) : (s.holdRequest k g y v).log = s.log := rfl
@[simp] theorem holdRequest_sup (k g : Byte) (y : List Byte) (v : Service) : (s.holdRequest k g y v).sup = s.sup := rfl
@[simp] theorem holdRequest_freeIx (k g : Byte) (y : List Byte) (v : Service) : (s.holdRequest k g y v).freeIx = s.freeIx := rfl
@[simp] theorem holdRequest_pending (k g : Byte) (y : List Byte) (v : Service) : (s.holdRequest k g y v).pending = s.pending := rfl

end State

/-! ## Fours -/

variable {α : Type}

@[simp] theorem quad_get_set (q : Quad α) (i j : Four) (a : α) :
    (q.set i a).get j = if j = i then a else q.get j := by
  cases i <;> cases j <;> rfl

@[simp] theorem quad_get_modify (q : Quad α) (i j : Four) (f : α → α) :
    (q.modify i f).get j = if j = i then f (q.get j) else q.get j := by
  cases i <;> cases j <;> rfl

@[simp] theorem quad_get_fill (a : α) (j : Four) : (Quad.fill a).get j = a := by cases j <;> rfl

@[simp] theorem quad_get_map {β : Type} (q : Quad α) (f : α → β) (j : Four) : (q.map f).get j = f (q.get j) := by
  cases j <;> rfl

theorem four_mem_all (d : Four) : d ∈ Four.all := by cases d <;> simp [Four.all]

@[simp] theorem channels_get_set (q : Channels) (i j : Channel) (r : ChanRec) :
    (q.set i r).get j = if j = i then r else q.get j := by
  cases i <;> cases j <;> simp [Channels.get, Channels.set]

@[simp] theorem switches_get_set (q : Switches) (i j : Switch) (r : SwitchRec) :
    (q.set i r).get j = if j = i then r else q.get j := by
  cases i <;> cases j <;> simp [Switches.get, Switches.set]

@[simp] theorem valves_get_set (q : Valves) (i j : Valve) (r : ValveRec) :
    (q.set i r).get j = if j = i then r else q.get j := by
  cases i <;> cases j <;> simp [Valves.get, Valves.set] <;> split <;> simp_all

/-! ## Records read after an update -/

theorem disp_modDisp (s : State) (d e : Four) (f : Dispenser → Dispenser) :
    (s.modDisp d f).disp e = if e = d then f (s.disp e) else s.disp e := by
  simp [State.disp]

theorem bank_modBank (s : State) (b c : Four) (f : BankRec → BankRec) :
    (s.modBank b f).bank c = if c = b then f (s.bank c) else s.bank c := by
  simp [State.bank]

theorem meterRec_modMeterRec (s : State) (d e : Four) (f : MeterRec → MeterRec) :
    (s.modMeterRec d f).meterRec e = if e = d then f (s.meterRec e) else s.meterRec e := by
  simp [State.meterRec]

theorem receiver_modReceiver (s : State) (d e : Four) (f : VehicleReceiver → VehicleReceiver) :
    (s.modReceiver d f).receiver e = if e = d then f (s.receiver e) else s.receiver e := by
  simp [State.receiver]

theorem chan_setChan (s : State) (c e : Channel) (r : ChanRec) :
    (s.setChan c r).chan e = if e = c then r else s.chan e := by
  simp [State.chan]

theorem switch_setSwitch (s : State) (i j : Switch) (r : SwitchRec) :
    (s.setSwitch i r).switch j = if j = i then r else s.switch j := by
  simp [State.switch]

theorem valve_setValve (s : State) (i j : Valve) (r : ValveRec) :
    (s.setValve i r).valve j = if j = i then r else s.valve j := by
  simp [State.valve]

theorem valve_command (s : State) (i j : Valve) (l : Level) :
    (s.command i l).valve j = if j = i then ((s.valve j).command l).1 else s.valve j := by
  by_cases h : j = i <;> simp [State.command, State.valve, h]

/-- A valve commanded to the same position twice stands as after the first command (R27). -/
theorem command_command (r : ValveRec) (l : Level) : (r.command l).1.command l = r.command l := by
  unfold ValveRec.command
  cases h : r.state <;> simp only [h]
  by_cases h1 : l = r.commanded
  · simp [h, h1]
  · by_cases h2 : r.feedback.settled = some l <;> simp [h1, h2]

/-- What several valves commanded closed leave of each valve (R27). -/
theorem valve_closeAll (s : State) (vs : List Valve) (j : Valve) :
    (s.closeAll vs).valve j = if j ∈ vs then ((s.valve j).command .closed).1 else s.valve j := by
  induction vs generalizing s with
  | nil => rfl
  | cons v vs ih =>
    change ((s.command v .closed).closeAll vs).valve j = _
    rw [ih, valve_command]
    by_cases h : j = v <;> by_cases hj : j ∈ vs <;> simp [h, hj, command_command]

/-- Several valves commanded closed change the valves alone. -/
theorem closeAll_eq (s : State) (vs : List Valve) :
    s.closeAll vs = { s with field := { s.field with valves := (s.closeAll vs).field.valves } } := by
  induction vs generalizing s with
  | nil => rfl
  | cons v vs ih => exact ih (s.command v .closed)

end Sys2Proof.Machine
end

