-- ==== Sys2Proof/Laws/Kept.lean ====
section
/-!
SUPPORT. What no consequence of an event touches, said once for every shared operation: the queue of commands, the
clock, the request in service, the channels and switches, the pulse counts and masses, the calibration record, the
configuration, the transaction counter, the stored log, the reserve and the chiller stages; and that each keeps the
notice queue within 32, the log ordered, every latch set and a SHUTDOWN in force. A proof about a command cites
`kept_take`.
-/

namespace Sys2Proof.Machine

/-- What a metering record holds beside the captured sale. -/
def MeterRec.count (m : MeterRec) := (m.pulses, m.mass, m.creep, m.flow, m.final)

/-- The parts of the state that no consequence of an event changes. -/
def State.still (s : State) :=
  (s.pending, (s.link.clock, s.link.clockSet, s.link.buffer, s.link.note, s.link.supervision, s.link.supTimer),
    (s.field.chans, s.field.switches, s.field.running, s.field.sweep, s.field.disagreeCount, s.field.disagree),
    (s.meter.cal, s.meter.session, s.meter.damaged, s.meter.recs.map MeterRec.count),
    (s.sup.store, s.sup.saving, s.sup.work, s.sup.resetPending, s.sup.resetAsked),
    (s.log.counter, s.log.stored, s.log.recovering),
    (s.precool.reserve, s.precool.charge, s.precool.stage1, s.precool.stage2, s.precool.lowMark))

/-- What the Station Supervisor keeps through consequences: a latch stays set, and a SHUTDOWN stays in force (R182). -/
def SupKept (u v : Supervisor) : Prop :=
  (∀ c, u.latches.get c = true → v.latches.get c = true) ∧ (u.station = .shutdown → v.station = .shutdown)

theorem SupKept.refl (u : Supervisor) : SupKept u u := ⟨fun _ => id, id⟩

/-- `t` follows from `s` by consequences alone: the still parts stand, the notice queue stays within 32 (R8), the log
ordered (R168), and the latches and a SHUTDOWN stay (R182). -/
def Kept (s t : State) : Prop :=
  t.still = s.still ∧ (s.noticesFit → t.noticesFit) ∧ (s.log.ordered → t.log.ordered) ∧ SupKept s.sup t.sup

theorem Kept.refl (s : State) : Kept s s := ⟨rfl, id, id, SupKept.refl _⟩

theorem Kept.trans {s t u : State} (h : Kept s t) (k : Kept t u) : Kept s u :=
  ⟨k.1.trans h.1, fun x => k.2.1 (h.2.1 x), fun x => k.2.2.1 (h.2.2.1 x),
    fun c x => k.2.2.2.1 c (h.2.2.2.1 c x), fun x => k.2.2.2.2 (h.2.2.2.2 x)⟩

@[simp] theorem kept_refl (s : State) : Kept s s ↔ True := iff_true_intro (Kept.refl s)

section

variable (s t : State)

@[simp] theorem kept_modBanks (f) : Kept s (t.modBanks f) ↔ Kept s t := Iff.rfl
@[simp] theorem kept_modBank (b f) : Kept s (t.modBank b f) ↔ Kept s t := Iff.rfl
@[simp] theorem kept_modComp (f) : Kept s (t.modComp f) ↔ Kept s t := Iff.rfl
@[simp] theorem kept_modReceiver (d f) : Kept s (t.modReceiver d f) ↔ Kept s t := Iff.rfl
@[simp] theorem kept_modDisp (d f) : Kept s (t.modDisp d f) ↔ Kept s t := Iff.rfl
@[simp] theorem kept_modFill (d f) : Kept s (t.modFill d f) ↔ Kept s t := Iff.rfl
@[simp] theorem kept_modTimers (d f) : Kept s (t.modTimers d f) ↔ Kept s t := Iff.rfl
@[simp] theorem kept_setValve (i r) : Kept s (t.setValve i r) ↔ Kept s t := Iff.rfl
@[simp] theorem kept_command (i l) : Kept s (t.command i l) ↔ Kept s t := Iff.rfl
@[simp] theorem kept_setPcv (d p) : Kept s (t.setPcv d p) ↔ Kept s t := Iff.rfl

@[simp] theorem kept_closeAll (vs : List Valve) : Kept s (t.closeAll vs) ↔ Kept s t := by
  unfold State.closeAll
  induction vs generalizing t with
  | nil => rfl
  | cons v vs ih => exact ih (t.command v .closed)

variable {s t}

/-- A notice posted leaves at most 32 (R8). -/
theorem post_length (l : Link) (k : NoticeKind) (c : Source) (n : Nat) (h : l.notices.length ≤ 32) :
    (l.post k c n).notices.length ≤ 32 := by
  unfold Link.post
  split
  · simp; omega
  · simp; omega

theorem kept_post (h : Kept s t) (k c n) : Kept s (t.post k c n) := by
  refine ⟨?_, fun x => post_length _ _ _ _ (h.2.1 x), h.2.2⟩
  have : (t.post k c n).still = t.still := by
    simp only [State.still, State.post_pending, State.post_link, State.post_meter, State.post_sup, State.post_log,
      State.post_precool, State.post_field, Link.post]
    split <;> rfl
  rw [this, h.1]

/-- What the Precool Unit keeps through consequences. -/
def Precool.still (p : Precool) := (p.reserve, p.charge, p.stage1, p.stage2, p.lowMark)

theorem kept_modPrecool (h : Kept s t) (f : Precool → Precool) (hf : (f t.precool).still = t.precool.still) :
    Kept s (t.modPrecool f) := by
  refine ⟨?_, h.2.1, h.2.2⟩
  rw [← h.1]; simp_all [State.still, Precool.still]

/-- What the Station Supervisor holds that no consequence changes. -/
def Supervisor.still (u : Supervisor) := (u.store, u.saving, u.work, u.resetPending, u.resetAsked)

theorem kept_modSup (h : Kept s t) (f : Supervisor → Supervisor) (hf : (f t.sup).still = t.sup.still)
    (hl : SupKept t.sup (f t.sup)) : Kept s (t.modSup f) := by
  refine ⟨?_, h.2.1, h.2.2.1, fun c x => hl.1 c (h.2.2.2.1 c x), fun x => hl.2 (h.2.2.2.2 x)⟩
  rw [← h.1]; simp_all [State.still, Supervisor.still]

/-- A sale dropped or captured leaves the counts of the metering records. -/
theorem kept_modMeterRec (h : Kept s t) (d : Four) (f : MeterRec → MeterRec) (hf : ∀ m, (f m).count = m.count) :
    Kept s (t.modMeterRec d f) := by
  refine ⟨?_, h.2⟩
  rw [← h.1]
  have : (t.meter.recs.modify d f).map MeterRec.count = t.meter.recs.map MeterRec.count := by
    cases d <;> simp [Quad.modify, Quad.set, Quad.get, Quad.map, hf]
  simp [State.still, this]

theorem kept_modLog (h : Kept s t) (f : TransLog → TransLog)
    (hf : ((f t.log).counter, (f t.log).stored, (f t.log).recovering) =
      (t.log.counter, t.log.stored, t.log.recovering))
    (ho : t.log.ordered → (f t.log).ordered) : Kept s (t.modLog f) := by
  refine ⟨?_, h.2.1, fun x => ho (h.2.2.1 x), h.2.2.2⟩
  rw [← h.1]; simp_all [State.still]

end

/-! ## The log's own operations -/

theorem numbered_map {n : Nat} {ring : List LogEntry} (h : Numbered n ring) (f : LogEntry → LogEntry)
    (hf : ∀ e, (f e).number = e.number) : Numbered n (ring.map f) := by
  refine ⟨?_, ?_⟩
  · rw [List.pairwise_map]; simpa [hf] using h.1
  · intro e he; obtain ⟨x, hx, rfl⟩ := List.mem_map.1 he; rw [hf]; exact h.2 x hx

theorem numbered_changeEntry {n k : Nat} {ring : List LogEntry} (h : Numbered n ring) (f : LogEntry → LogEntry)
    (hf : ∀ e, e.number = k → (f e).number = e.number) : Numbered n (changeEntry k f ring) := by
  refine numbered_map h _ fun e => ?_
  by_cases hk : e.number = k
  · simp [hk, hf e hk]
  · simp [hk]

theorem findEntry_number {n : Nat} {ring : List LogEntry} {e : LogEntry} (h : findEntry n ring = some e) :
    e.number = n := by
  simpa using List.find?_some h

/-- Replacing a dispenser's own entry by one of the same number keeps the log ordered. -/
theorem ordered_modOwn {g : TransLog} (h : g.ordered) (d : Four) (e e' : LogEntry) (he : g.ownEntry d = some e)
    (hn : e'.number = e.number) : (g.modOwn d fun _ => e').ordered := by
  unfold TransLog.modOwn
  unfold TransLog.ownEntry at he
  split
  · rename_i n hd
    rw [hd] at he
    have hf := findEntry_number he
    exact ⟨numbered_changeEntry h.1 _ (fun x hx => by rw [hn, hf, hx]), h.2.1, h.2.2⟩
  · rename_i hd
    rw [hd] at he
    split
    · rename_i c hc
      rw [hc] at he
      simp only [Option.map_some, Option.some.injEq] at he
      have hx : g.creation = some c := by
        unfold TransLog.creationOf at hc
        exact (Option.filter_eq_some_iff.1 hc).1
      refine ⟨h.1, h.2.1, fun c' hc' => ?_⟩
      simp only [Option.some.injEq] at hc'
      subst hc'
      exact ⟨by simpa [hn, ← he] using (h.2.2 c hx).1, (h.2.2 c hx).2⟩
    · exact h

@[simp] theorem modOwn_counter (g : TransLog) (d f) : (g.modOwn d f).counter = g.counter := by
  unfold TransLog.modOwn; split; · rfl
  · split <;> rfl

@[simp] theorem modOwn_stored (g : TransLog) (d f) : (g.modOwn d f).stored = g.stored := by
  unfold TransLog.modOwn; split; · rfl
  · split <;> rfl

@[simp] theorem modOwn_recovering (g : TransLog) (d f) : (g.modOwn d f).recovering = g.recovering := by
  unfold TransLog.modOwn; split; · rfl
  · split <;> rfl

@[simp] theorem checkpointed_number (s : State) (d : Four) (e : LogEntry) :
    (s.checkpointed d e).number = e.number := by
  unfold State.checkpointed
  dsimp only
  split <;> rfl

theorem kept_checkpoint {s t : State} (h : Kept s t) (d : Four) : Kept s (t.checkpoint d) := by
  unfold State.checkpoint
  split
  · exact h
  · rename_i e he
    refine kept_modLog h _ (by simp [TransLog.storeImage]) fun x => ?_
    exact ordered_modOwn x d e _ he (checkpointed_number _ _ _)

theorem kept_closeEntry {s t : State} (h : Kept s t) (d : Four) (f : LogEntry → LogEntry)
    (hf : ∀ e, (f e).number = e.number) : Kept s (t.closeEntry d f) := by
  unfold State.closeEntry
  split
  · exact h
  · rename_i e he
    refine kept_modLog h _ (by simp) fun x => ?_
    exact ordered_modOwn x d e _ he (by simp [hf])

theorem kept_testMarks {s t : State} (h : Kept s t) : Kept s t.testMarks := by
  unfold State.testMarks
  refine kept_modLog ?_ _ rfl id
  split <;> split <;> simp only [kept_post, h]

end Sys2Proof.Machine
end

