-- ==== Sys2Proof/Laws/Consequences.lean ====
section
/-!
SUPPORT. Every shared operation of the blocks, and so every consequence of an event, is `Kept`: `kept_take` says it of an
agenda taken whole.
-/

namespace Sys2Proof.Machine

variable {s t : State}

/-! ## The Compressor Scheduler -/

theorem kept_compareFeedback (h : Kept s t) : Kept s t.compareFeedback := by simpa [State.compareFeedback] using h

theorem kept_finishEntry (h : Kept s t) (e : RefillEntry) : Kept s (t.finishEntry e) :=
  kept_post (by simpa using h) _ _ _

theorem kept_foldl {α : Type} (f : State → α → State) (hf : ∀ u a, Kept s u → Kept s (f u a)) :
    ∀ (l : List α) (u : State), Kept s u → Kept s (l.foldl f u)
  | [], _, h => h
  | a :: l, u, h => kept_foldl f hf l (f u a) (hf u a h)

theorem kept_examine (h : Kept s t) : Kept s t.examine := by
  unfold State.examine
  refine kept_foldl _ (fun u e hu => ?_) _ _ h
  split
  · exact kept_finishEntry hu e
  · exact hu

theorem kept_enterStarting (h : Kept s t) : Kept s t.enterStarting := kept_compareFeedback (by simpa using h)

theorem kept_evalStart (h : Kept s t) : Kept s t.evalStart := by
  have he := kept_examine h
  unfold State.evalStart
  dsimp only
  split
  · exact h
  · split
    · split
      · exact kept_enterStarting he
      · simpa using he
    · simpa using he

theorem kept_closeSpell (h : Kept s t) (b : Four) : Kept s (t.closeSpell b) := by
  unfold State.closeSpell
  split
  · exact h
  · simpa using h

theorem kept_endDelivery (h : Kept s t) (b : Four) : Kept s (t.endDelivery b) := by
  unfold State.endDelivery State.deliveryEnded
  simpa using kept_closeSpell (t := t.command (.cv b) .closed) (by simpa using h) b

theorem kept_giveBack (h : Kept s t) : Kept s t.giveBack := by
  unfold State.giveBack
  split
  · exact h
  · exact kept_endDelivery h _

theorem kept_enterUnloading (h : Kept s t) : Kept s t.enterUnloading := by
  simpa [State.enterUnloading] using kept_giveBack h

theorem kept_beginSpell (h : Kept s t) (b : Four) : Kept s (t.beginSpell b) := by simpa [State.beginSpell] using h

theorem kept_stall (h : Kept s t) (b : Four) (n : Nat) : Kept s (t.stall b n).1 :=
  kept_post (by simpa using kept_endDelivery h b) _ _ _

theorem kept_loseBank (h : Kept s t) (b : Four) : Kept s (t.loseBank b).1 := by
  unfold State.loseBank
  split
  · exact kept_endDelivery h b
  · exact h

theorem kept_choose (h : Kept s t) (a : ChoiceAt) (l : List Four) : Kept s (t.choose a l).1 := by
  have he := kept_examine h
  unfold State.choose
  split
  · dsimp only
    split
    · exact kept_enterUnloading he
    · split
      · exact he
      · split
        · exact he
        · cases a <;> simpa [State.beginSpell] using he
  · exact h

theorem kept_unload (h : Kept s t) : Kept s t.unload := by
  unfold State.unload
  split
  · exact kept_enterUnloading h
  · exact h

theorem kept_autoDemand (h : Kept s t) (b : Four) : Kept s (t.autoDemand b) := by
  unfold State.autoDemand
  refine kept_evalStart ?_
  split <;> simpa using h

theorem kept_judgeSupply (h : Kept s t) : Kept s t.judgeSupply := by
  unfold State.judgeSupply
  split
  · split
    · split
      · exact kept_evalStart (by simpa using h)
      · exact h
    · split
      · split
        · exact h
        · exact kept_unload (by simpa using h)
      · exact h
  · split
    · exact h
    · exact kept_unload (by simpa using h)

theorem kept_disableNow (h : Kept s t) (c : DisableCause) : Kept s (t.disableNow c) := by
  simpa [State.disableNow] using h

theorem kept_compShutdown (h : Kept s t) : Kept s t.compShutdown := by
  unfold State.compShutdown
  dsimp only
  split
  · exact kept_disableNow h _
  · exact kept_disableNow h _
  · simpa using h
  · exact h
  · exact h
  · exact kept_enterUnloading (by simpa using h)

theorem kept_returnToService (h : Kept s t) : Kept s t.returnToService :=
  kept_evalStart (kept_compareFeedback (by simpa using h))

theorem kept_compResume (h : Kept s t) : Kept s t.compResume := by
  unfold State.compResume
  split
  · split
    · exact kept_returnToService h
    · exact h
  · simpa using h
  · exact h

theorem kept_compFault (h : Kept s t) : Kept s t.compFault.1 :=
  kept_post (by simpa using kept_giveBack h) _ _ _

/-! ## The Bank Manager -/

theorem kept_leaveWaitLists (h : Kept s t) (d : Four) : Kept s (t.leaveWaitLists d) := by
  simpa [State.leaveWaitLists] using h

theorem kept_walk (h : Kept s t) (d : Four) (x : Option Four) : Kept s (t.walk d x).1 := by
  unfold State.walk
  dsimp only
  split
  · split
    · exact h
    · split
      · simpa [State.joinWaitList] using h
      · exact h
  · exact h

theorem kept_recordGrant (h : Kept s t) (d b : Four) : Kept s (t.recordGrant d b) := by
  unfold State.recordGrant
  dsimp only
  split <;> simpa using h

theorem kept_grant (h : Kept s t) (d b : Four) : Kept s (t.grant d b).1 := by
  have he := kept_evalStart (kept_recordGrant h d b)
  unfold State.grant
  dsimp only
  split
  · exact he
  · exact he
  · exact he
  · exact he

theorem kept_release (h : Kept s t) (b d : Four) : Kept s (t.release b d).1 := by
  unfold State.release
  split
  · dsimp only
    split <;> simpa using h
  · exact h

theorem kept_freeBank (h : Kept s t) (b : Four) : Kept s (t.freeBank b).1 := by
  unfold State.freeBank
  split
  · exact kept_evalStart (by simpa using h)
  · simpa using h

theorem kept_serveWaiters (h : Kept s t) (b : Four) : Kept s (t.serveWaiters b).1 := by
  unfold State.serveWaiters
  split
  · split
    · exact kept_evalStart h
    · dsimp only
      split <;> exact kept_leaveWaitLists h _
  · exact h

theorem kept_rewalkWaiters (h : Kept s t) (b : Four) : Kept s (t.rewalkWaiters b).1 := by
  unfold State.rewalkWaiters
  split
  · exact h
  · exact kept_leaveWaitLists h _

theorem kept_isolateBank (h : Kept s t) (b : Four) : Kept s (t.isolateBank b).1 := by
  unfold State.isolateBank
  split
  · exact kept_evalStart (by simpa using h)
  · simpa using h
  · split
    · exact h
    · simpa using h
  · exact h

theorem kept_switchDemand (h : Kept s t) (d : Four) : Kept s (t.switchDemand d).1 := by
  unfold State.switchDemand
  split <;> exact h

theorem kept_switchTests (h : Kept s t) (d : Four) : Kept s (t.switchTests d).1 := by
  unfold State.switchTests
  split
  · split
    · dsimp only
      split <;> simpa using h
    · exact h
  · exact h

theorem kept_lowTest (h : Kept s t) (b : Four) (p : Nat) : Kept s (t.lowTest b p) := by
  have hp : Kept s ((t.modBank b fun k => { k with low := true }).post .bankLow (.bank b) (p / 100)) :=
    kept_post (by simpa using h) _ _ _
  unfold State.lowTest
  dsimp only
  split
  · split
    · exact hp
    · exact kept_autoDemand hp b
  · split
    · simpa using h
    · exact h

/-! ## The fill -/

theorem kept_preStartClose (h : Kept s t) (d : Four) (c : Cause) : Kept s (t.preStartClose d c) := by
  unfold State.preStartClose State.closePreStart
  refine kept_modMeterRec ?_ d _ fun _ => rfl
  simpa using kept_post (kept_closeEntry (t := t.modTimers d fun m => { m with auth := none }) (by simpa using h) d
    (fun e => { e with cause := some c }) fun _ => rfl) .fillEnd (.dispenser d) c.code

theorem kept_leavePrecoolList (h : Kept s t) (d : Four) : Kept s (t.leavePrecoolList d) := kept_modPrecool h _ rfl

theorem kept_enterEnding (h : Kept s t) (d : Four) (c : Cause) : Kept s (t.enterEnding d c).1 := by
  unfold State.enterEnding
  dsimp only
  split <;>
    simpa using kept_leavePrecoolList (t := State.leaveWaitLists (t.modDisp d _) d)
      (kept_leaveWaitLists (by simpa using h) d) d

theorem kept_endCause (h : Kept s t) (d : Four) (c : Cause) : Kept s (t.endCause d c).1 := by
  unfold State.endCause
  dsimp only
  split
  · exact kept_enterEnding h d c
  · split
    · exact kept_preStartClose h d c
    · exact h

theorem kept_endingRest (h : Kept s t) (d : Four) : Kept s (t.endingRest d) := by
  unfold State.endingRest
  refine kept_checkpoint ?_ d
  simp only [kept_modBanks, kept_modTimers]
  exact kept_modPrecool (by simpa using h) _ rfl

theorem ordered_disputed {g : TransLog} (h : g.ordered) (d : Four) :
    (g.modOwn d fun e => { e with disputed := true }).ordered := by
  unfold TransLog.modOwn
  split
  · exact ⟨numbered_changeEntry h.1 _ fun _ _ => rfl, h.2.1, h.2.2⟩
  · split
    · rename_i c hc
      have hx : g.creation = some c := by
        unfold TransLog.creationOf at hc
        exact (Option.filter_eq_some_iff.1 hc).1
      refine ⟨h.1, h.2.1, fun c' hc' => ?_⟩
      simp only [Option.some.injEq] at hc'
      subst hc'
      exact h.2.2 c hx
    · exact h

theorem kept_mismatch (h : Kept s t) (d : Four) : Kept s (t.mismatch d).1 :=
  kept_checkpoint (kept_modLog h _ (by simp) fun x => ordered_disputed x d) d

theorem kept_beginPulse (h : Kept s t) (d b : Four) : Kept s (t.beginPulse d b).1 := by
  simpa [State.beginPulse] using h

theorem kept_beginDraw (h : Kept s t) (d b : Four) (o : Option Four) : Kept s (t.beginDraw d b o).1 := by
  unfold State.beginDraw
  dsimp only
  cases o with
  | none => simpa using h
  | some b0 => exact kept_checkpoint (by simpa using h) d

theorem kept_takeGrant (h : Kept s t) (d b : Four) (o : Option Four) : Kept s (t.takeGrant d b o).1 := by
  unfold State.takeGrant
  split
  · split
    · exact kept_beginPulse h d b
    · exact kept_beginDraw h d b o
    · exact h
  · exact h

theorem kept_reserve (h : Kept s t) (q : AdmissionRequest) (g : Grade) (f : Figures) : Kept s (t.reserve q g f) :=
  kept_modPrecool h _ rfl

theorem kept_joinPrecoolList (h : Kept s t) (q : AdmissionRequest) : Kept s (t.joinPrecoolList q) :=
  kept_checkpoint (by simpa using kept_modPrecool h _ rfl) _

theorem kept_admit (h : Kept s t) (q : AdmissionRequest) : Kept s (t.takeAdmission q).1 := by
  unfold State.takeAdmission
  split
  · exact kept_reserve h _ _ _
  · exact kept_joinPrecoolList h _

theorem kept_admitHead (h : Kept s t) : Kept s t.admitHead.1 := by
  unfold State.admitHead
  split
  · exact h
  · split
    · exact h
    · exact kept_reserve (kept_modPrecool h _ rfl) _ _ _

theorem kept_plan (h : Kept s t) (d : Four) : Kept s (t.plan d).1 := by
  unfold State.plan
  split
  · dsimp only
    split
    · simpa using h
    · exact kept_admit (by simpa using h) _
  · exact h

theorem kept_commandSetpoint (h : Kept s t) (d : Four) : Kept s (t.commandSetpoint d) := by
  unfold State.commandSetpoint
  split
  · simpa using h
  · exact h

theorem kept_enterFuelling (h : Kept s t) (d : Four) (g : Grade) (f : Figures) :
    Kept s (t.enterFuelling d g f).1 := by
  unfold State.enterFuelling
  split
  · dsimp only
    have hc (f : Dispenser → Dispenser) : Kept s ((t.modDisp d f).commandSetpoint d) :=
      kept_commandSetpoint (by simpa using h) d
    split
    · split
      · simpa using hc _
      · split <;> simpa using hc _
    · exact hc _
  · exact h

theorem kept_fuelRequest (h : Kept s t) (d : Four) : Kept s (t.fuelRequest d).1 := by
  unfold State.fuelRequest
  split
  · split <;> exact h
  · exact h

theorem kept_fallback (h : Kept s t) (d : Four) : Kept s (t.fallback d).1 := by
  unfold State.fallback
  split
  · exact kept_commandSetpoint (by simpa using h) d
  · exact h

theorem kept_downgrade (h : Kept s t) (d : Four) (g g' : Grade) : Kept s (t.downgrade d g g').1 :=
  kept_post (kept_modPrecool (kept_commandSetpoint (by simpa using h) d) _ rfl) _ _ _

theorem kept_precoolTest (h : Kept s t) (d : Four) : Kept s (t.precoolTest d).1 := by
  unfold State.precoolTest
  split
  · split
    · exact h
    · dsimp only
      have hw (x : Option Reservation) : Kept s (t.modPrecool fun p => { p with table := p.table.set d x }) :=
        kept_modPrecool h _ rfl
      split
      · exact hw _
      · split
        · exact hw _
        · exact kept_downgrade (hw _) _ _ _
  · exact h

theorem kept_restartRamp (h : Kept s t) (d : Four) : Kept s (t.restartRamp d) := by
  unfold State.restartRamp
  split
  · simpa using h
  · exact h

/-! ## The agenda -/

theorem kept_latch (h : Kept s t) (c : FaultCause) (b : Option Four) : Kept s (t.latch c b).1 := by
  refine kept_modSup h _ rfl ⟨fun e he => ?_, id⟩
  cases c <;> cases e <;> simp_all [Latches.get, Latches.set]

theorem kept_shutdown (h : Kept s t) (c : FaultCause) : Kept s (t.shutdown c).1 :=
  kept_post (kept_modSup h _ rfl ⟨fun _ => id, fun _ => rfl⟩) _ _ _

/-- Every consequence is kept. -/
theorem kept_doTask (h : Kept s t) (k : Task) : Kept s (t.doTask k).1 := by
  cases k <;> unfold State.doTask <;> dsimp only
  · exact kept_endCause h _ _
  · exact kept_endingRest h _
  · exact kept_release h _ _
  · exact kept_freeBank h _
  · exact kept_serveWaiters h _
  · exact kept_rewalkWaiters h _
  · exact kept_walk h _ _
  · exact kept_grant h _ _
  · exact kept_takeGrant h _ _ _
  · exact kept_loseBank h _
  · exact kept_choose h _ _
  · exact kept_isolateBank h _
  · exact kept_switchDemand h _
  · exact kept_mismatch h _
  · exact kept_latch h _ _
  · exact kept_shutdown h _
  · exact kept_compShutdown h
  · exact kept_plan h _
  · exact kept_admitHead h
  · exact kept_enterFuelling h _ _ _
  · exact kept_fuelRequest h _
  · exact kept_checkpoint h _
  · exact kept_fallback h _
  · exact kept_switchTests h _
  · exact kept_precoolTest h _
  · exact kept_restartRamp h _
  · exact kept_unload h

theorem kept_runTasks (n : Nat) : ∀ (ts : List Task) (t : State), Kept s t → Kept s (State.runTasks n ts t) := by
  induction n with
  | zero =>
    intro ts t h
    cases ts <;> exact h
  | succ n ih =>
    intro ts t h
    cases ts with
    | nil => exact h
    | cons k ts => exact ih _ _ (kept_doTask h k)

/-- An agenda taken whole is kept. -/
theorem kept_take (h : Kept s t) (ts : List Task) : Kept s (t.take ts) := kept_runTasks _ _ _ h

theorem kept_endFill (h : Kept s t) (d : Four) (c : Cause) : Kept s (t.endFill d c) := kept_take h _

theorem kept_endAll (h : Kept s t) (c : Cause) : Kept s (t.endAll c) := kept_take h _

theorem kept_settled {p : State × List Task} (h : Kept s p.1) : Kept s (settled p) := kept_take h _

end Sys2Proof.Machine
end

