-- ==== Sys2Proof/Laws/PerInstr.lean ====
section
/-!
SUPPORT. Laws made per command. `BodyLength`: the frame that a request's row stands for has the body length that R6 gives
its KIND; a row that is not a request stands for no frame.
-/

namespace Sys2Proof.Machine

/-- `n` bytes, most significant first, are `n` bytes. -/
theorem length_beBytes (n v : Nat) : (beBytes n v).length = n := by
  induction n with
  | zero => rfl
  | succ n ih => simp [beBytes, ih]

end Sys2Proof.Machine

namespace Sys2Proof.Laws.BodyLength

open Sys2Proof.Machine

/-- A request's frame has the body length of its KIND (R6). -/
def Statement (i : Instr) : Prop :=
  ∀ k g body, requestOf i = some (k, g, body) → bodyLength k.toNat = some body.length

theorem frameReceived (f : Frame) : Statement (.frameReceived f) := by
  rintro k g body ⟨⟩

theorem linkByteReceived (b : Byte) : Statement (.linkByteReceived b) := by
  rintro k g body ⟨⟩

theorem interByteGapTimeout : Statement .interByteGapTimeout := by
  rintro k g body ⟨⟩

theorem replySent : Statement .replySent := by
  rintro k g body ⟨⟩

theorem linkTimerExpiry : Statement .linkTimerExpiry := by
  rintro k g body ⟨⟩

theorem clockTick : Statement .clockTick := by
  rintro k g body ⟨⟩

theorem status (tag : Byte) : Statement (.status tag) := by
  rintro k g body ⟨⟩
  rfl

theorem notice (tag : Byte) : Statement (.notice tag) := by
  rintro k g body ⟨⟩
  rfl

theorem time (tag : Byte) (value : Word) : Statement (.time tag value) := by
  rintro k g body ⟨⟩
  simp [bodyLength, word4, length_beBytes]

theorem linkset (tag : Byte) (timeout : Byte) (action : Byte) : Statement (.linkset tag timeout action) := by
  rintro k g body ⟨⟩
  rfl

theorem reset (tag : Byte) (force : Byte) : Statement (.reset tag force) := by
  rintro k g body ⟨⟩
  rfl

theorem resume (tag : Byte) : Statement (.resume tag) := by
  rintro k g body ⟨⟩
  rfl

theorem actset (tag : Byte) (cause : Byte) (enable : Byte) : Statement (.actset tag cause enable) := by
  rintro k g body ⟨⟩
  rfl

theorem selftest (tag : Byte) : Statement (.selftest tag) := by
  rintro k g body ⟨⟩
  rfl

theorem cfgwrite (tag : Byte) (group : Byte) (index : Byte) (item : Byte) (value : Word) : Statement (.cfgwrite tag group index item value) := by
  rintro k g body ⟨⟩
  simp [bodyLength, word4, length_beBytes]

theorem cfgread (tag : Byte) (group : Byte) (index : Byte) (item : Byte) : Statement (.cfgread tag group index item) := by
  rintro k g body ⟨⟩
  rfl

theorem cfgsave (tag : Byte) : Statement (.cfgsave tag) := by
  rintro k g body ⟨⟩
  rfl

theorem tariffWrite (tag : Byte) (code : Byte) (hp : Word) (mp : Word) : Statement (.tariffWrite tag code hp mp) := by
  rintro k g body ⟨⟩
  simp [bodyLength, word4, length_beBytes]

theorem authorize (tag : Byte) (body : AuthorizeBody) : Statement (.authorize tag body) := by
  rintro k g body ⟨⟩
  simp [bodyLength, word4, half2, length_beBytes, AuthorizeBody.bytes, AuthorizeBody.selectionBytes]

theorem cancel (tag : Byte) (disp : Byte) : Statement (.cancel tag disp) := by
  rintro k g body ⟨⟩
  rfl

theorem stop (tag : Byte) (disp : Byte) : Statement (.stop tag disp) := by
  rintro k g body ⟨⟩
  rfl

theorem openDispenser (tag : Byte) (disp : Byte) : Statement (.openDispenser tag disp) := by
  rintro k g body ⟨⟩
  rfl

theorem closeDispenser (tag : Byte) (disp : Byte) : Statement (.closeDispenser tag disp) := by
  rintro k g body ⟨⟩
  rfl

theorem clear (tag : Byte) (disp : Byte) : Statement (.clear tag disp) := by
  rintro k g body ⟨⟩
  rfl

theorem readdisp (tag : Byte) (disp : Byte) : Statement (.readdisp tag disp) := by
  rintro k g body ⟨⟩
  rfl

theorem refill (tag : Byte) (bank : Byte) (priority : Byte) : Statement (.refill tag bank priority) := by
  rintro k g body ⟨⟩
  rfl

theorem isolate (tag : Byte) (bank : Byte) : Statement (.isolate tag bank) := by
  rintro k g body ⟨⟩
  rfl

theorem restore (tag : Byte) (bank : Byte) : Statement (.restore tag bank) := by
  rintro k g body ⟨⟩
  rfl

theorem compressorOn (tag : Byte) : Statement (.compressorOn tag) := by
  rintro k g body ⟨⟩
  rfl

theorem compressorOff (tag : Byte) : Statement (.compressorOff tag) := by
  rintro k g body ⟨⟩
  rfl

theorem readbank (tag : Byte) (bank : Byte) : Statement (.readbank tag bank) := by
  rintro k g body ⟨⟩
  rfl

theorem readprecool (tag : Byte) : Statement (.readprecool tag) := by
  rintro k g body ⟨⟩
  rfl

theorem lognext (tag : Byte) : Statement (.lognext tag) := by
  rintro k g body ⟨⟩
  rfl

theorem logget (tag : Byte) (number : Word) : Statement (.logget tag number) := by
  rintro k g body ⟨⟩
  simp [bodyLength, word4, length_beBytes]

theorem settle (tag : Byte) (number : Word) : Statement (.settle tag number) := by
  rintro k g body ⟨⟩
  simp [bodyLength, word4, length_beBytes]

theorem calOpen (tag : Byte) : Statement (.calOpen tag) := by
  rintro k g body ⟨⟩
  rfl

theorem calWrite (tag : Byte) (disp : Byte) (factor : Half) : Statement (.calWrite tag disp factor) := by
  rintro k g body ⟨⟩
  simp [bodyLength, half2, length_beBytes]

theorem calClose (tag : Byte) : Statement (.calClose tag) := by
  rintro k g body ⟨⟩
  rfl

theorem calRead (tag : Byte) : Statement (.calRead tag) := by
  rintro k g body ⟨⟩
  rfl

theorem readstats (tag : Byte) (source : Byte) (number : Byte) : Statement (.readstats tag source number) := by
  rintro k g body ⟨⟩
  rfl

theorem cfgsaveStoreComplete : Statement .cfgsaveStoreComplete := by
  rintro k g body ⟨⟩

theorem calCloseStoreComplete : Statement .calCloseStoreComplete := by
  rintro k g body ⟨⟩

theorem checkpointStoreComplete (d : Four) : Statement (.checkpointStoreComplete d) := by
  rintro k g body ⟨⟩

theorem logEntryStoreComplete : Statement .logEntryStoreComplete := by
  rintro k g body ⟨⟩

theorem logRecoveryStoreComplete : Statement .logRecoveryStoreComplete := by
  rintro k g body ⟨⟩

theorem analogSample (c : Channel) (current : Nat) : Statement (.analogSample c current) := by
  rintro k g body ⟨⟩

theorem channelHoldExpiry (c : Channel) : Statement (.channelHoldExpiry c) := by
  rintro k g body ⟨⟩

theorem meterPulse (d : Four) : Statement (.meterPulse d) := by
  rintro k g body ⟨⟩

theorem switchLevelChange (i : Input) (l : Level) : Statement (.switchLevelChange i l) := by
  rintro k g body ⟨⟩

theorem debounceExpiry (w : Switch) : Statement (.debounceExpiry w) := by
  rintro k g body ⟨⟩

theorem valveFeedbackSettled (v : Valve) : Statement (.valveFeedbackSettled v) := by
  rintro k g body ⟨⟩

theorem valveTravelExpiry (v : Valve) : Statement (.valveTravelExpiry v) := by
  rintro k g body ⟨⟩

theorem compressorFeedbackSettled : Statement .compressorFeedbackSettled := by
  rintro k g body ⟨⟩

theorem referenceSweepStep (c : Converter) (current : Nat) : Statement (.referenceSweepStep c current) := by
  rintro k g body ⟨⟩

theorem sweepValveWaitExpiry : Statement .sweepValveWaitExpiry := by
  rintro k g body ⟨⟩

theorem bankWaitExpiry (d : Four) : Statement (.bankWaitExpiry d) := by
  rintro k g body ⟨⟩

theorem drawWindowCheckExpiry (b : Four) : Statement (.drawWindowCheckExpiry b) := by
  rintro k g body ⟨⟩

theorem deferralTimerExpiry : Statement .deferralTimerExpiry := by
  rintro k g body ⟨⟩

theorem spinUpExpiry : Statement .spinUpExpiry := by
  rintro k g body ⟨⟩

theorem progressTimerExpiry : Statement .progressTimerExpiry := by
  rintro k g body ⟨⟩

theorem switchTimerExpiry : Statement .switchTimerExpiry := by
  rintro k g body ⟨⟩

theorem runDownExpiry : Statement .runDownExpiry := by
  rintro k g body ⟨⟩

theorem restTimerExpiry : Statement .restTimerExpiry := by
  rintro k g body ⟨⟩

theorem mismatchTimerExpiry : Statement .mismatchTimerExpiry := by
  rintro k g body ⟨⟩

theorem thermalUpdate : Statement .thermalUpdate := by
  rintro k g body ⟨⟩

theorem precoolWaitExpiry (d : Four) : Statement (.precoolWaitExpiry d) := by
  rintro k g body ⟨⟩

theorem vehicleReportFrame (d : Four) (bytes : List Byte) : Statement (.vehicleReportFrame d bytes) := by
  rintro k g body ⟨⟩

theorem freshnessTimerExpiry (d : Four) : Statement (.freshnessTimerExpiry d) := by
  rintro k g body ⟨⟩

theorem authorizationTimerExpiry (d : Four) : Statement (.authorizationTimerExpiry d) := by
  rintro k g body ⟨⟩

theorem pulseTimerExpiry (d : Four) : Statement (.pulseTimerExpiry d) := by
  rintro k g body ⟨⟩

theorem connectionSettleExpiry (d : Four) : Statement (.connectionSettleExpiry d) := by
  rintro k g body ⟨⟩

theorem leakHoldExpiry (d : Four) : Statement (.leakHoldExpiry d) := by
  rintro k g body ⟨⟩

theorem rampStep (d : Four) : Statement (.rampStep d) := by
  rintro k g body ⟨⟩

theorem fillTimeExpiry (d : Four) : Statement (.fillTimeExpiry d) := by
  rintro k g body ⟨⟩

theorem overshootTimerExpiry (d : Four) : Statement (.overshootTimerExpiry d) := by
  rintro k g body ⟨⟩

theorem haltTimerExpiry (d : Four) : Statement (.haltTimerExpiry d) := by
  rintro k g body ⟨⟩

theorem endingSettleExpiry (d : Four) : Statement (.endingSettleExpiry d) := by
  rintro k g body ⟨⟩

theorem flowTimerExpiry : Statement .flowTimerExpiry := by
  rintro k g body ⟨⟩

theorem powerOn : Statement .powerOn := by
  rintro k g body ⟨⟩

theorem resetLine : Statement .resetLine := by
  rintro k g body ⟨⟩

theorem stationReset : Statement .stationReset := by
  rintro k g body ⟨⟩

end Sys2Proof.Laws.BodyLength
end

