-- ==== Sys2Proof/Laws/Requests.lean ====
section
/-!
SUPPORT. What a request's row does: served by its owner in the state that `State.Offers` names, answered by the Link
Controller where a check of R3 fails, noted or discarded where another request is in service (R4).
-/

namespace Sys2Proof.Machine

/-! ## Link supervision -/

theorem superviseFrame_cases (s : State) :
    s.superviseFrame = s ∨
      s.superviseFrame =
        s.modLink fun l => { l with supervision := .watching, supTimer := seconds s.work.site.linkTimeout } := by
  unfold State.superviseFrame
  split
  · exact .inl rfl
  · exact .inr rfl

@[simp] theorem superviseFrame_buffer (s : State) : s.superviseFrame.link.buffer = s.link.buffer := by
  rcases superviseFrame_cases s with h | h <;> rw [h]; rfl

@[simp] theorem superviseFrame_sup (s : State) : s.superviseFrame.sup = s.sup := by
  rcases superviseFrame_cases s with h | h <;> rw [h]; rfl

@[simp] theorem superviseFrame_startingUp (s : State) : s.superviseFrame.startingUp = s.startingUp := by
  simp [State.startingUp]

/-! ## The checks of R3 -/

theorem frameCheck_none {s : State} {kind : Byte} {body : List Byte}
    (hn : bodyLength kind.toNat = some body.length) (hs : s.startingUp = false ∨ kind = 0x01)
    (hf : firstBad (fieldChecks kind.toNat body) = none) : s.frameCheck kind body = none := by
  unfold State.frameCheck
  rw [hn]
  rcases hs with hs | hs <;> simp [hs, hf]
  simpa [hs] using hf

/-! ## A row that is served -/

/-- A request that passes its checks is served by its owner in the state `u` of `State.Offers` (R3). -/
theorem takeRequest_offered {s u : State} {kind tag : Byte} {body : List Byte} (owner : Owner)
    (h : s.Offers kind tag body u) (hn : bodyLength kind.toNat = some body.length)
    (hf : firstBad (fieldChecks kind.toNat body) = none) :
    s.takeRequest kind tag body owner = u.serveRequest owner := by
  unfold State.takeRequest
  rcases h with ⟨hb, rfl⟩ | ⟨hb, hs, rfl⟩
  · rw [if_pos hb]
  · have hc : s.superviseFrame.frameCheck kind body = none :=
      frameCheck_none hn (by simpa using hs) hf
    have ht : s.takeFrame kind tag body = s.superviseFrame.holdRequest kind tag body .waiting := by
      unfold State.takeFrame
      simp only [superviseFrame_buffer, hb, hc]
    rw [if_neg (by simp [hb])]
    simp only [ht]
    rw [if_pos ⟨hb, rfl⟩]

theorem serveRequest_answering (u : State) (f : State → State × Answer) :
    u.serveRequest (answering f) = (f u).1.sendReply (f u).2 := rfl

theorem serveRequest_reading (u : State) (f : State → Answer) : u.serveRequest (reading f) = u.sendReply (f u) := rfl

theorem namedFour_field (d : Four) : namedFour (Four.field d) = some d := by cases d <;> rfl

theorem serveRequest_ownerOf (u : State) (d : Four) (f : Four → State → State × Answer) :
    u.serveRequest (ownerOf (Four.field d) f) = (f d u).1.sendReply (f d u).2 := by
  simp [State.serveRequest, ownerOf, namedFour_field, answering]

/-- The request in service is the one offered. -/
theorem Offers.buffer {s u : State} {kind tag : Byte} {body : List Byte} (h : s.Offers kind tag body u) :
    u.link.buffer = some ⟨kind, tag, body, .waiting⟩ := by
  rcases h with ⟨hb, rfl⟩ | ⟨-, -, rfl⟩
  · exact hb
  · rfl

/-- An answer sent while the request stands in the buffer is its reply (R5). -/
theorem replies_sendReply {t : State} {kind tag : Byte} {body : List Byte} {v : Service} (a : Answer)
    (h : t.link.buffer = some ⟨kind, tag, body, v⟩) : (t.sendReply a).Replies kind tag body a := by
  simp [State.Replies, State.sendReply, State.modLink, h, State.reply]

/-! ## A row that is not served -/

/-- A row that finds another request in service (R4). -/
theorem takeRequest_busy {s : State} {kind tag : Byte} {body : List Byte} (owner : Owner) {q : Request}
    (hb : s.link.buffer = some q) (hq : q ≠ ⟨kind, tag, body, .waiting⟩) :
    s.takeRequest kind tag body owner = s.superviseFrame.noteBusy kind tag := by
  unfold State.takeRequest
  rw [if_neg (by simpa [hb] using hq)]
  have ht : s.takeFrame kind tag body = s.superviseFrame.noteBusy kind tag := by
    unfold State.takeFrame
    simp only [superviseFrame_buffer, hb]
  simp [ht, hb]

/-- A row whose frame fails a check is answered by the Link Controller (R3). -/
theorem takeRequest_checked {s : State} {kind tag : Byte} {body : List Byte} (owner : Owner) {a : Answer}
    (hb : s.link.buffer = none) (ha : s.superviseFrame.frameCheck kind body = some a) :
    s.takeRequest kind tag body owner =
      (s.superviseFrame.holdRequest kind tag body .waiting).sendReply a := by
  unfold State.takeRequest
  rw [if_neg (by simp [hb])]
  have ht : s.takeFrame kind tag body = (s.superviseFrame.holdRequest kind tag body .waiting).sendReply a := by
    unfold State.takeFrame
    simp only [superviseFrame_buffer, hb, ha]
  simp only [ht]
  rw [if_neg]
  simp [State.sendReply, State.holdRequest, State.modLink]

/-! ## Rows and their fields -/

/-- Every request's row is taken through `takeRequest` with its own owner. -/
theorem request_row (i : Instr) (k g : Byte) (body : List Byte) (h : requestOf i = some (k, g, body)) :
    ∃ o : Owner, ∀ s, exec i s = .next (s.takeRequest k g body o) := by
  cases i <;> (first | (cases h; done) | (obtain ⟨⟩ := h; exact ⟨_, fun _ => rfl⟩))

/-- A row's body has the length of its KIND (R6). -/
theorem request_bodyLength (i : Instr) (k g : Byte) (body : List Byte) (h : requestOf i = some (k, g, body)) :
    bodyLength k.toNat = some body.length := by
  cases i <;>
    (first
     | (cases h; done)
     | (obtain ⟨⟩ := h
        simp [bodyLength, word4, half2, length_beBytes, AuthorizeBody.bytes, AuthorizeBody.selectionBytes]))

theorem fieldAt_first (a : Byte) (l : List Byte) : fieldAt (a :: l) 0 1 = a.toNat := by simp [fieldAt, beValue]

theorem fieldAt_second (a b : Byte) (l : List Byte) : fieldAt (a :: b :: l) 1 1 = b.toNat := by
  simp [fieldAt, beValue]

theorem fieldAt_word4_one (a : Byte) (v : Word) (l : List Byte) : fieldAt (a :: (word4 v ++ l)) 1 4 = v.toNat := by
  have := v.isLt
  simp [fieldAt, beValue, word4, beBytes]; omega

theorem fieldAt_word4_five (a : Byte) (v w : Word) : fieldAt (a :: (word4 v ++ word4 w)) 5 4 = w.toNat := by
  have := w.isLt
  simp [fieldAt, beValue, word4, beBytes]; omega

theorem fieldAt_half2_one (a : Byte) (v : Half) : fieldAt (a :: half2 v) 1 2 = v.toNat := by
  have := v.isLt
  simp [fieldAt, beValue, half2, beBytes]; omega

theorem byte_eq_ofNat (a : Byte) (n : Nat) (h : n < 256) : a = BitVec.ofNat 8 n ↔ a.toNat = n := by
  constructor
  · rintro rfl; simpa using h
  · intro e; exact BitVec.eq_of_toNat_eq (by simp [e]; omega)

/-- A number of the four as a field lies in its range. -/
theorem between_field (d : Four) : between 1 4 (Four.field d).toNat = true := by cases d <;> rfl

/-! ## CFGWRITE and CFGREAD, whose owner answers a field out of range as the Link Controller does (R3, R188) -/

/-- A request is served as `State.Offers` says also where a field fails its check, if its owner would answer so too. -/
theorem takeRequest_agreed {s u : State} {kind tag : Byte} {body : List Byte} (owner : Owner)
    (h : s.Offers kind tag body u) (hn : bodyLength kind.toNat = some body.length)
    (ho : ∀ n, firstBad (fieldChecks kind.toNat body) = some n → owner u = (u, some (badValue n))) :
    s.takeRequest kind tag body owner = u.serveRequest owner := by
  cases hf : firstBad (fieldChecks kind.toNat body) with
  | none => exact takeRequest_offered owner h hn hf
  | some n =>
    rcases h with ⟨hb, rfl⟩ | ⟨hb, hs, rfl⟩
    · unfold State.takeRequest
      rw [if_pos hb]
    · rw [takeRequest_checked owner hb (a := badValue n)]
      · unfold State.serveRequest
        rw [ho n hf]
      · unfold State.frameCheck
        rw [hn]
        rcases hs with hs | rfl
        · simp [hs, hf]
        · simpa using ⟨n, hf, rfl⟩

theorem beValue_word4 (v : Word) : beValue (word4 v) = v.toNat := by
  have := v.isLt
  simp [word4, beBytes, beValue, BitVec.toNat_ofNat]
  omega

/-- The checks of a CFGREAD's body. -/
theorem fieldChecks_cfgread (a b c : Byte) :
    fieldChecks (0x11 : Byte).toNat [a, b, c] = readChecks a.toNat b.toNat c.toNat := by
  simp [fieldChecks, fieldAt, beValue]

/-- The checks of a CFGWRITE's body. -/
theorem fieldChecks_cfgwrite (a b c : Byte) (v : Word) :
    fieldChecks (0x10 : Byte).toNat ([a, b, c] ++ word4 v) = writeChecks a.toNat b.toNat c.toNat v := by
  have hv := beValue_word4 v
  obtain ⟨p, q, r, t, e⟩ : ∃ p q r t, word4 v = [p, q, r, t] := ⟨_, _, _, _, rfl⟩
  rw [e] at hv ⊢
  have one : ∀ x : Byte, beValue [x] = x.toNat := fun x => by simp [beValue]
  simp [fieldChecks, fieldAt, one, hv]

/-- CFGWRITE is answered by the owner's reading of it, whichever block makes the range checks. -/
theorem cfgwrite_offered {s u : State} {g a b c : Byte} {v : Word} (h : s.Offers 0x10 g ([a, b, c] ++ word4 v) u) :
    execCfgwrite g a b c v s =
      .next ((u.writeConfigItem a.toNat b.toNat c.toNat v).1.sendReply
        (u.writeConfigItem a.toNat b.toNat c.toNat v).2) := by
  refine congrArg _ ((takeRequest_agreed _ h rfl fun n hn => ?_).trans (serveRequest_answering u _))
  rw [fieldChecks_cfgwrite] at hn
  simp [answering, State.writeConfigItem, writeConfig, hn]

/-- CFGREAD is answered by the owner's reading of it, whichever block makes the range checks. -/
theorem cfgread_offered {s u : State} {g a b c : Byte} (h : s.Offers 0x11 g [a, b, c] u) :
    execCfgread g a b c s =
      .next ((u.readConfig a.toNat b.toNat c.toNat).1.sendReply (u.readConfig a.toNat b.toNat c.toNat).2) := by
  refine congrArg _ ((takeRequest_agreed _ h rfl fun n hn => ?_).trans (serveRequest_answering u _))
  rw [fieldChecks_cfgread] at hn
  have hi : itemBad a.toNat b.toNat c.toNat = some n := hn
  simp [answering, State.readConfig, hi]

/-- An item whose range the groups give is one of the group's items (R188). -/
theorem item_of_valueRange {group index item : Nat} (hg : between 1 7 group = true)
    (h : (valueRange group index item).isSome = true) : between 1 (itemCount group) item = true := by
  have hg : group = 1 ∨ group = 2 ∨ group = 3 ∨ group = 4 ∨ group = 5 ∨ group = 6 ∨ group = 7 := by
    simp [between] at hg
    omega
  rcases hg with rfl | rfl | rfl | rfl | rfl | rfl | rfl <;> simp only [valueRange] at h
  · unfold siteItem at h
    split at h <;> first | rfl | simp at h
  · unfold bankItem at h
    split at h <;> first | rfl | simp at h
  · unfold dispRange at h
    split at h <;> first | rfl | simp at h
  · unfold precoolItem at h
    split at h <;> first | rfl | simp at h
  · cases hp : rampPair index <;> simp only [hp, Option.bind_none, Option.bind_some] at h
    · simp at h
    · unfold rampItem at h
      split at h <;> first | rfl | simp at h
  · split at h
    · unfold genericItem at h
      split at h <;> first | rfl | simp at h
    · unfold classItem at h
      split at h <;> first | rfl | simp at h
  · unfold tariffItem at h
    split at h <;> first | rfl | simp at h

/-- What fails to name an item fails CFGWRITE's checks at the same field (R188). -/
theorem writeChecks_of_itemBad {group index item n : Nat} (v : Word) (h : itemBad group index item = some n) :
    firstBad (writeChecks group index item v) = some n := by
  simp only [itemBad, readChecks, firstBad] at h
  simp only [writeChecks, firstBad]
  cases h1 : between 1 7 group <;> simp only [h1] at h ⊢
  · exact h
  cases h2 : indexGood group index <;> simp only [h2] at h ⊢
  · exact h
  cases h3 : (valueRange group index item).isSome
  · cases h4 : between 1 (itemCount group) item <;> simp [h4] at h
    simp [h]
  · simp [item_of_valueRange h1 h3] at h

end Sys2Proof.Machine
end

