-- ==== Sys2Proof/WellFormed.lean ====
section
/-!
DEFINITION. Which commands can stand on the wires: LENGTH is two bytes, so the body of a frame holds at most 65,535
bytes (section 1.8). Every other operand is held to its width by its type.
-/

namespace Sys2Proof

/-- A frame whose body length fits LENGTH. -/
def Frame.wellFormed (f : Frame) : Bool := decide (f.body.length ≤ 65535)

/-- A command that can stand on the wires. -/
def Instr.wellFormed : Instr → Bool
  | .frameReceived f => f.wellFormed
  | _ => true

end Sys2Proof
end

