-- ==== Sys2Proof/Tests/Slice0.lean ====
section
/-!
SUPPORT. The model's own tests: the well-formedness check, the worked figures of the specification, each command on a
small state, and for every statement with hypotheses a state that meets them.
-/

namespace Sys2Proof.Machine.Tests

set_option Elab.async false

/-! ## Small states -/

/-- A GOOD channel at a value. -/
def good (v : Int) : ChanRec := ⟨some v, .good, 0, none, .pass⟩

/-- A settled input. -/
def still (l : Level) : SwitchRec := ⟨l, some l, l, none⟩

/-- An input about to settle at `l`. -/
def changing (l : Level) : SwitchRec := ⟨l, some (otherLevel l), l, some 0⟩

/-- Channels at ordinary values, banks below their rated pressures. -/
def channels : Channels :=
  { primary := .fill (good 10000), secondary := .fill (good 10000), outlet := .fill (good (-350)),
    bank := ⟨good 49000, good 69000, good 92000, good 92000⟩, supply := good 3000, ambient := good 200,
    precoolOutlet := good (-380) }

/-- A READY station at rest, every dispenser IDLE. -/
def ready : State :=
  { State.reset with
    field := { resetField with
      chans := channels,
      switches :=
        { holder := .fill (still .closed), startButton := .fill (still .opened), stopButton := .fill (still .opened),
          esd := still .closed, gasAlarm := still .closed, sealIn := still .closed },
      valves :=
        { bv := .fill (.fill ⟨.closed, still .closed, .ok, none, false⟩), cv := .fill ⟨.closed, still .closed, .ok, none, false⟩,
          dv := .fill ⟨.closed, still .closed, .ok, none, false⟩ },
      running := still .opened },
    comp := { resetCompressor with supplyLow := false },
    precool := { resetPrecool with reserve := 30000000, lowMark := false },
    disps := .fill { resetDispenser with state := .idle },
    sup := { resetSupervisor with station := .ready } }

/-- The state in which a request's owner takes it. -/
def served (s : State) (k g : Byte) (body : List Byte) : State := s.superviseFrame.holdRequest k g body .waiting

/-- A request whose frame arrives at an empty buffer outside START_UP is offered to its owner. -/
theorem offered (s : State) (k g : Byte) (body : List Byte) (hb : s.link.buffer = none)
    (hs : s.startingUp = false) : s.Offers k g body (served s k g body) :=
  .inr ⟨hb, .inl hs, rfl⟩

/-- An OPEN entry of dispenser 1. -/
def entry : LogEntry :=
  { number := 1, state := .opened, disp := .one, authTime := 0, tariff := 1, price := 5000, limitKind := 1,
    limitValue := 2000, cap := 2000, mLim := 400, selection := [1, 0, 0, 0, 0x13, 0x88, 100], startTime := none,
    p0 := none, group := none, grade := none, fallback := false, disputed := false, fromCheckpoint := false,
    clockUnset := true, endTime := 0, finalPressure := 0, mass := 0, billed := 0, overrun := 0, cause := none,
    usage := [], held := false }

/-- Price and limits of that entry. -/
def sale : Sale := ⟨5000, .money, 2000, 400, 2000, 30⟩

/-- Dispenser 1 changed by `f`, with entry 1 its own and its sale captured. -/
def withEntry (f : Dispenser → Dispenser) : State :=
  ((ready.modDisp .one f).modMeterRec .one fun m => { m with sale := some sale }).modLog fun g =>
    { g with ring := [entry], stored := [entry], counter := 2, own := g.own.set .one (some 1) }

/-- Dispenser 1 AUTHORIZED. -/
def authorized : State :=
  withEntry fun p =>
    { p with
      state := .authorized, captured := some ⟨.user, 5000, 100, none, none⟩, timers := { p.timers with auth := some 0 } }

/-- A fill at 10,000 kPa on its way to 70,000 kPa. -/
def fill : Fill :=
  { nozzle := .hp, startTime := 0, startUnset := true, currentBank := none, usage := [], p0 := some 9000,
    snapshot := some
      ⟨200, ⟨.noncomm, .user, 5000, 100, none, 95⟩, [(.a, ⟨470, 8, 120⟩), (.b, ⟨380, 7, 200⟩), (.c, ⟨300, 6, 280⟩)],
        200, 95⟩,
    least := some 68000, ramp := some ⟨.a, 70000, 470, 4000, 9000, 2, none⟩, admitted := some .a, downgrades := some 0,
    fallback := false, cause := none }

/-- Dispenser 1 in a state of its fill, some timers running. -/
def inFill (st : DispState) (m : DispTimers) : State :=
  withEntry fun p => { p with state := st, fill := some fill, timers := m }

/-- Dispenser 1 FUELLING with its ramp and fill timers running. -/
def fuelling : State := inFill .fuelling { noTimers with ramp := some 0, fill := some 0 }

/-- A draw window of dispenser 1 on bank 1. -/
def window : Window := ⟨.one, 0, 52000, 0, some 0, 0⟩

/-- Dispenser 1 FUELLING from bank 1. -/
def drawing : State :=
  (fuelling.modBank .one fun k => { k with state := .drawing .one, window := some window }).modBanks fun k =>
    { k with grant := k.grant.set .one (some .one) }

/-- The compressor in a state with its timer at 0. -/
def compIn (st : CompState) : State := ready.modComp fun c => { c with state := st, timer := some 0 }

/-- A refill entry of bank 1. -/
def refillOne : RefillEntry := ⟨.one, 1, 50000, .auto, 0, 0, some 48000⟩

/-- The compressor in a state with bank 1 queued and being delivered into. -/
def delivering (st : CompState) : State :=
  ((compIn st).modComp fun c =>
    { c with queue := [refillOne], delivery := some .one, spell := some ⟨some 48000⟩ }).modBank .one fun k =>
      { k with state := .refilling }

/-- A vehicle report of 14 bytes: tank code 1, 122 litres, 10,000 kPa, 20.0 °C, with its command. -/
def report (command : Byte) : List Byte :=
  let bs : List Byte := [0, 0, 1, 0, 122, 0, 0, 0x27, 0x10, 0, 200, command]
  bs ++ beBytes 2 (crc16 bs).toNat

/-- The receiver of dispenser 1 in a watch state, its last report 2.0 s old, dispenser 1 FUELLING. -/
def watching (w : Watch) : State := fuelling.modReceiver .one fun v =>
  { v with watch := w, fresh := some 0, age := 20 }

/-- The result and DETAIL of the reply in transmission after a command. -/
def answer (i : Instr) (s : State) : Option (ResultCode × Nat) :=
  match (s.after i).link.buffer with
  | some ⟨_, _, _, .replying r⟩ => some (r.result, r.detail)
  | _ => none

/-! ## Well-formedness -/

theorem test_long_body_refused :
    Instr.wellFormed (.frameReceived ⟨0x10, 0, List.replicate 65536 0, 0⟩) = false := by
  change decide ((List.replicate 65536 (0 : Byte)).length ≤ 65535) = false
  rw [List.length_replicate]
  rfl

theorem test_longest_body_accepted :
    Instr.wellFormed (.frameReceived ⟨0x10, 0, List.replicate 65535 0, 0⟩) = true := by
  change decide ((List.replicate 65535 (0 : Byte)).length ≤ 65535) = true
  rw [List.length_replicate]
  rfl

/-! ## Worked figures of the specification -/

/-- The check value of the CRC of R2: the ASCII digits 1 to 9. -/
theorem test_crc_check_value : crc16 [0x31, 0x32, 0x33, 0x34, 0x35, 0x36, 0x37, 0x38, 0x39] = 0x29B1 := by
  decide +kernel

/-- Targets, rates and expected masses of section 8.11, grades A, B and C. -/
theorem test_car_planning :
    planFigures .hp
        ⟨350, ⟨.comm, .entry 1, 5600, 100, none, 100⟩,
          [(.a, ⟨470, 8, 120⟩), (.b, ⟨380, 7, 200⟩), (.c, ⟨300, 6, 280⟩)], 200, 95⟩ 12000 10000 =
      [(.a, ⟨77773, 350, 4735⟩), (.b, ⟨79717, 275, 4757⟩), (.c, ⟨81660, 210, 4777⟩)] := by
  decide +kernel

/-- The fallback of section 8.11.2. -/
theorem test_car_fallback :
    (Ramp.recompute ⟨.a, 77773, 350, 4735, 12000, 120, none⟩ .hp
        ⟨350, ⟨.comm, .entry 1, 5600, 100, none, 100⟩, [(.a, ⟨470, 8, 120⟩)], 200, 95⟩ .a 95 2900) =
      ⟨.a, 73885, 350, 4735, 54000, 0, some 1835⟩ := by
  decide +kernel

/-- Grade U of the bus of section 8.12: the target is capped by the class and the rate raised to its least. -/
theorem test_bus_grade_u :
    targetPressure .mp (some 43000) 100 480 ⟨120, 3, 350⟩ = 43000 ∧ rampRate .mp ⟨120, 3, 350⟩ 200 60 480 = 30 := by
  decide +kernel

/-- The heats per gram of section 5.3 at +35.0 °C. -/
theorem test_heat_per_gram :
    (heatPerGram factoryPrecool 350 .a, heatPerGram factoryPrecool 350 .b, heatPerGram factoryPrecool 350 .c,
      heatPerGram factoryPrecool 350 .u) = (1200, 1040, 880, 0) := by
  decide +kernel

/-- The money limit of section 9.2.5. -/
theorem test_money_limit :
    massLimit .money 5000 1450 10000 = 3448 ∧ amount 3418 1450 = 4956 ∧ amount 3461 1450 = 5018 ∧
      massOf 69230 20000 = 3461 := by
  decide +kernel

/-- The checks of section 9.3.1: a pass, and a window that fails. -/
theorem test_window_checks :
    windowPasses 2100 (estimatedMass 45000 43300 1200) = true ∧
      windowPasses 1250 (estimatedMass 70000 69300 900) = false := by
  decide +kernel

/-- The ends of the sample range (R18): 3,600 and 21,000 µA read as the ends of the span. -/
theorem test_sample_ends :
    (convert (.primary .one) 3600, convert (.primary .one) 21000, convert (.outlet .one) 4000, convert .supply 12000) =
      (0, 100000, -600, 5000) := by
  decide +kernel

/-- A report as section 6.3 lays it out. -/
theorem test_report_read : judgeReport (report 0) = .valid ⟨1, 122, 10000, 200, .run⟩ := by decide +kernel

/-! ## Each command on a small state -/

theorem test_frame_received :
    (ready.after (.frameReceived ⟨0x01, 9, [], crc16 [0, 0, 0x01, 9]⟩)).link.buffer = some ⟨0x01, 9, [], .waiting⟩ := by
  decide +kernel

theorem test_frame_with_a_wrong_crc : (ready.after (.frameReceived ⟨0x01, 9, [], 0⟩)).link.framing = 1 := by
  decide +kernel

/-- A STATUS frame heard byte by byte. -/
theorem test_bytes_heard :
    (ready.hear (0xA5 :: frameBytes ⟨0x01, 9, [], crc16 [0, 0, 0x01, 9]⟩)).link.buffer =
      some ⟨0x01, 9, [], .waiting⟩ := by
  decide +kernel

theorem test_gap_timeout :
    ((ready.hear [0xA5, 0]).after .interByteGapTimeout).link.framing = 1 := by decide +kernel

theorem test_reply_sent : ((ready.after (.resume 1)).after .replySent).link.buffer = none := by decide +kernel

/-- The bytes of a RESET answered NOT_NOW, FILLING with two notices pending (sections 1.3 and 1.8). -/
theorem test_reply_frame :
    Reply.frame ⟨0x85, 7, .notNow, 2, 4, .none⟩ = [0xA5, 0, 3, 0x85, 7, 5, 2, 4, 0xA2, 0x92] ∧
      ReplyData.body (.broadcast [(.ok, 0), (.notNow, 1)]) = [0, 0, 5, 1] := by decide +kernel

theorem test_link_timer_expiry :
    let s := (authorized.modLink fun l => { l with supervision := .watching, supTimer := some 0 }).after .linkTimerExpiry
    (s.disp .one).state = .idle ∧ s.link.supervision = .lost := by decide +kernel

/-- A frame and the expiry together, taken in either order (R13). -/
theorem test_frame_and_link_expiry :
    let s := authorized.modLink fun l => { l with supervision := .watching, supTimer := some 0 }
    let f : Frame := ⟨0x01, 9, [], crc16 [0, 0, 0x01, 9]⟩
    let frameFirst := (s.after (.frameReceived f)).after .linkTimerExpiry
    let expiryFirst := (s.after .linkTimerExpiry).after (.frameReceived f)
    (frameFirst.disp .one).state = .authorized ∧ frameFirst.link.supTimer = some 30000 ∧
      frameFirst.link.notices = [] ∧ (expiryFirst.disp .one).state = .idle ∧
      expiryFirst.link.supervision = .watching ∧ expiryFirst.link.supTimer = some 30000 := by decide +kernel

theorem test_clock_wraps :
    ((ready.modLink fun l => { l with clock := 0xFFFFFFFF }).after .clockTick).link.clock = 0 := by decide +kernel

theorem test_status : answer (.status 1) State.reset = some (.ok, 0) := by decide +kernel

theorem test_starting_up : answer (.notice 1) State.reset = some (.notNow, 2) := by decide +kernel

theorem test_notice :
    let s := (ready.post .bankLow (.bank .two) 600).after (.notice 1)
    s.link.notices = [] ∧ (s.link.buffer.map (·.phase)) =
      some (.replying ⟨0x82, 1, .ok, 0, 0, .bytes [3, 2, 2, 2, 88, 2, 0, 0, 0, 0]⟩) := by decide +kernel

theorem test_time : (ready.after (.time 1 77)).link.clock = 77 := by decide +kernel

theorem test_linkset :
    let s := ready.after (.linkset 1 30 1)
    s.link.supTimer = some 30000 ∧ s.work.site.linkAction = .stop := by decide +kernel

theorem test_reset_while_filling : answer (.reset 1 0) fuelling = some (.notNow, 4) := by decide +kernel

theorem test_forced_reset : ((fuelling.after (.reset 1 1)).disp .one).state = .ending := by decide +kernel

theorem test_resume :
    let s := (ready.modSup fun u => { u with station := .shutdown }).after (.resume 1)
    s.sup.station = .ready ∧ s.link.notices.map (·.kind) = [.stationResumed] := by decide +kernel

theorem test_actset : (ready.after (.actset 1 6 1)).work.site.enComp = true := by decide +kernel

theorem test_selftest : (ready.after (.selftest 1)).field.sweep.phase = .channels := by decide +kernel

theorem test_cfgwrite_ranks :
    let s := ready.after (.cfgwrite 1 2 1 1 2)
    ((s.bankCfg .one).rank, (s.bankCfg .two).rank, (s.dispCfg .one).cascade) =
      (2, 1, [.two, .one, .three, .four]) := by decide +kernel

theorem test_cfgwrite_out_of_range : answer (.cfgwrite 1 1 0 3 499) ready = some (.badValue, 4) := by decide +kernel

theorem test_cfgread :
    ((ready.after (.cfgread 1 3 3 2)).link.buffer.map (·.phase)) =
      some (.replying ⟨0x91, 1, .ok, 0, 0, .bytes [1, 2, 0, 0]⟩) := by decide +kernel

theorem test_cfgsave :
    ((ready.after (.cfgsave 1)).after .cfgsaveStoreComplete).link.buffer.map (·.phase) =
      some (.replying ⟨0x92, 1, .ok, 0, 0, .none⟩) := by decide +kernel

theorem test_tariff_write : (ready.after (.tariffWrite 1 7 10 20)).work.tariffs[7]? = some ⟨10, 20⟩ := by
  decide +kernel

/-- An AUTHORIZE of dispenser 1 at tariff 1 with a money limit and the USER selection. -/
def auth : AuthorizeBody := ⟨1, 1, 1, 2000, 1, 0, 0, 0, 5000, 100⟩

/-- READY with a price at tariff 1. -/
def priced : State := ready.modSup fun u => { u with work := { u.work with tariffs := u.work.tariffs.set 1 ⟨5000, 4000⟩ } }

theorem test_authorize :
    let s := priced.after (.authorize 1 auth)
    (s.disp .one).state = .authorized ∧ (s.link.buffer.map (·.phase)) = some .storing := by decide +kernel

theorem test_authorize_stored :
    let s := (priced.after (.authorize 1 auth)).after .logEntryStoreComplete
    s.log.counter = 2 ∧ s.log.own.one = some 1 ∧
      (s.link.buffer.map (·.phase)) = some (.replying ⟨0xA0, 1, .ok, 0, 0, .authorized 1 400 2000⟩) := by
  decide +kernel

theorem test_cancel :
    let s := authorized.after (.cancel 1 1)
    (s.disp .one).state = .idle ∧ s.log.ring.map (·.cause) = [some .cancelled] := by decide +kernel

theorem test_stop_all : ((fuelling.after (.stop 1 0)).disp .one).state = .ending := by decide +kernel

theorem test_open_all :
    let s := (ready.modDisp .two fun p => { p with state := .closed }).after (.openDispenser 1 0)
    (s.disp .two).state = .idle := by decide +kernel

theorem test_close : ((ready.after (.closeDispenser 1 4)).disp .four).state = .closed := by decide +kernel

theorem test_clear :
    (((ready.modDisp .one fun p => { p with state := .fault }).after (.clear 1 1)).disp .one).state = .idle := by
  decide +kernel

theorem test_readdisp : answer (.readdisp 1 1) ready = some (.ok, 0) := by decide +kernel

theorem test_refill :
    let s := ready.after (.refill 1 1 3)
    s.comp.queue.map (fun e => (e.bank, e.priority, e.origin)) = [(.one, 3, .station)] ∧ s.comp.state = .starting := by
  decide +kernel

theorem test_isolate : ((ready.after (.isolate 1 2)).bank .two).state = .isolated := by decide +kernel

theorem test_restore :
    ((((ready.after (.isolate 1 2)).after .replySent).after (.restore 1 2)).bank .two).state = .ready := by
  decide +kernel

theorem test_compressor_off : (ready.after (.compressorOff 1)).comp.disableCause = some .station := by decide +kernel

theorem test_compressor_on :
    let s := (ready.modComp fun c => { c with state := .disabled, sinceOff := 10000 }).after (.compressorOn 1)
    s.comp.state = .rest ∧ s.comp.timer = some 20000 := by decide +kernel

theorem test_readbank : answer (.readbank 1 5) ready = some (.badValue, 1) := by decide +kernel

theorem test_readprecool : answer (.readprecool 1) ready = some (.ok, 0) := by decide +kernel

theorem test_lognext : answer (.lognext 1) authorized = some (.nothing, 0) := by decide +kernel

theorem test_logget : answer (.logget 1 1) authorized = some (.ok, 0) := by decide +kernel

theorem test_entry_record_length : entry.record.length = 70 := by decide +kernel

/-- Entry 1 CLOSED. -/
def closedLog : State := authorized.modLog fun g =>
  { g with ring := [{ entry with state := .closed }], stored := [{ entry with state := .closed }], own := .fill none }

theorem test_settle :
    let s := closedLog.after (.settle 1 1)
    s.log.ring = [] ∧ s.log.stores = [.settle 1 2] := by decide +kernel

theorem test_settle_open : answer (.settle 1 1) authorized = some (.notNow, 9) := by decide +kernel

theorem test_cal_open_sealed : answer (.calOpen 1) ready = some (.notNow, 8) := by decide +kernel

/-- READY with the seal cut and a calibration session OPEN. -/
def calibrating : State :=
  (ready.setSwitch .sealIn (still .opened)).modMeter fun m => { m with session := .opened m.cal.factors }

theorem test_cal_write :
    (calibrating.after (.calWrite 1 3 20040)).meter.session = .opened ⟨20000, 20000, 20040, 20000⟩ := by decide +kernel

theorem test_cal_close :
    let s := ((((calibrating.after (.calWrite 1 3 20040)).after .replySent).after (.calClose 1))).after .calCloseStoreComplete
    s.meter.cal.audit = 1 ∧ s.meter.cal.agrees = true ∧ s.meter.cal.factors.three = 20040 := by decide +kernel

theorem test_cal_read : answer (.calRead 1) ready = some (.ok, 0) := by decide +kernel

theorem test_readstats :
    let s := (ready.modLink fun l => { l with overrun := 5 }).after (.readstats 1 0 0)
    s.link.overrun = 0 ∧ answer (.readstats 1 1 0) ready = some (.badValue, 2) := by decide +kernel

theorem test_checkpoint_store :
    (((fuelling.checkpoint .one).after (.checkpointStoreComplete .one)).log.stored.map (·.p0)) = [some 9000] := by
  decide +kernel

/-- Start-up with entry 1 being recovered. -/
def recovering : State := State.reset.modLog fun g =>
  { g with
    ring := [entry], stored := [entry],
    recovering := some { entry with state := .closed, cause := some .powerLoss } }

theorem test_recovery_store :
    let s := recovering.after .logRecoveryStoreComplete
    s.sup.station = .startUp .s4 ∧ s.log.stored.map (·.cause) = [some .powerLoss] := by decide +kernel

theorem test_sample : ((ready.after (.analogSample .supply 10400)).chan .supply).value = some 4000 := by decide +kernel

theorem test_sample_completes :
    ((fuelling.after (.analogSample (.primary .one) 15300)).disp .one).state = .ending := by decide +kernel

theorem test_hold_expiry :
    let s := (ready.setChan .ambient ⟨some 100, .invalid, 9, some 0, .pass⟩).after (.channelHoldExpiry .ambient)
    (s.chan .ambient).state = .failed ∧ s.link.notices.map (·.detail) = [256 + 18] := by decide +kernel

theorem test_pulse : ((fuelling.after (.meterPulse .one)).meterRec .one).pulses = 1 := by decide +kernel

theorem test_creep_pulse : ((ready.after (.meterPulse .one)).meterRec .one).creep = 1 := by decide +kernel

theorem test_level_change :
    ((ready.after (.switchLevelChange (.switch .esd) .opened)).switch .esd).timer = some 50 := by decide +kernel

theorem test_start_button :
    let s := ((authorized.setSwitch (.holder .one) (still .opened)).setSwitch (.startButton .one)
      (changing .closed)).after (.debounceExpiry (.startButton .one))
    (s.disp .one).state = .connecting .pulse ∧ (s.bank .one).state = .drawing .one ∧ s.field.pcv.one = 12000 := by
  decide +kernel

theorem test_esd :
    ((ready.setSwitch .esd (changing .opened)).after (.debounceExpiry .esd)).sup.station = .shutdown := by
  decide +kernel

theorem test_valve_feedback :
    let s := (ready.setValve (.cv .one) ⟨.opened, changing .opened, .ok, some 500, true⟩).after (.valveFeedbackSettled (.cv .one))
    (s.valve (.cv .one)).travel = none := by decide +kernel

theorem test_valve_travel :
    let s := (ready.setValve (.cv .one) ⟨.opened, still .closed, .ok, some 0, true⟩).after (.valveTravelExpiry (.cv .one))
    (s.valve (.cv .one)).state = .stuckClosed ∧ (s.bank .one).state = .isolated := by decide +kernel

/-- BV(2,1) travelling closed for the last time, dispenser 1 FUELLING and no shutdown for a valve stuck open: after a
reset it is not in use and its fault leaves the fill; after the dispenser's command to close it ends the fill (R125). -/
theorem test_valve_in_use :
    let s (used : Bool) := (fuelling.setValve (.bv .two .one) ⟨.closed, still .opened, .ok, some 0, used⟩).modSup fun u =>
      { u with work := { u.work with site := { u.work.site with enValve := false } } }
    let t (used : Bool) := (s used).after (.valveTravelExpiry (.bv .two .one))
    ((t false).valve (.bv .two .one)).state = .stuckOpen ∧ ((t false).disp .one).state = .fuelling ∧
      ((t true).disp .one).state = .ending ∧ (((t true).disp .one).fill.bind (·.cause)) = some .valve := by
  decide +kernel

/-- A valve's use from its command to open until its arrival closed, and at a reversal that arrives at once (R125). -/
theorem test_use_of_a_valve :
    let shut : ValveRec := ⟨.closed, still .closed, .ok, none, false⟩
    let opening := (shut.command .opened).1
    let closing : ValveRec := (({ opening with feedback := changing .closed, travel := none }).command .closed).1
    let arrived := (ready.setValve (.bv .two .one) closing).after (.valveFeedbackSettled (.bv .two .one))
    opening.inUse = true ∧ (opening.command .closed).1.inUse = false ∧ closing.inUse = true ∧
      closing.travel = some 2000 ∧ (arrived.valve (.bv .two .one)).inUse = false := by decide +kernel

theorem test_readdisp_timers :
    ((inFill .fuelling { noTimers with ramp := some 999, fill := some 1999 }).dispReport .one).timers =
      { noTimers with ramp := some 0, fill := some 1 } := by decide +kernel

theorem test_compressor_feedback :
    ((ready.modField fun f => { f with running := changing .closed }).after .compressorFeedbackSettled).comp.mismatch =
      some 2000 := by decide +kernel

/-- A sweep at the fifth read of converter A's first channel, the four before it good. -/
def sweeping : State := ready.modField fun f => { f with sweep := ⟨.channels, ⟨0, [8000, 4000, 8000, 20000]⟩, ⟨0, []⟩, none⟩ }

theorem test_sweep_step_fails :
    ((sweeping.after (.referenceSweepStep .a 8161)).chan (.primary .one)).ref = .fail := by decide +kernel

theorem test_sweep_step_passes :
    ((sweeping.after (.referenceSweepStep .a 8160)).chan (.primary .one)).ref = .pass := by decide +kernel

theorem test_sweep_ends :
    ((ready.modField fun f => { f with sweep := ⟨.valves, ⟨12, []⟩, ⟨7, []⟩, some 0⟩ }).after
      .sweepValveWaitExpiry).sweepActive = false := by decide +kernel

/-- Dispenser 1 FUELLING and waiting for bank 1, which dispenser 2 draws from. -/
def waiting : State :=
  ((fuelling.modBank .one fun k => { k with state := .drawing .two, waiters := [.one] }).modBanks fun k =>
    { k with wait := k.wait.set .one (some 0) }).modDisp .one fun p => { p with waitBank := true }

theorem test_bank_wait :
    let s := waiting.after (.bankWaitExpiry .one)
    (s.bank .one).waiters = [] ∧ (s.bank .two).state = .drawing .one := by decide +kernel

/-- A wait that the re-walk has begun afresh on another list does not expire with the old one (R48). -/
theorem test_bank_wait_afresh :
    let s := waiting.modBanks fun k => { k with wait := k.wait.set .one (some 20000) }
    (s.after (.bankWaitExpiry .one)).waitingOn .one = some .one ∧
      (s.after (.bankWaitExpiry .one)).banks.wait.get .one = some 20000 := by decide +kernel

/-- A bank that the re-walk of a waiter has left REFILLING still serves the next waiter (R47). -/
theorem test_refilling_bank_is_served :
    ((waiting.modBank .one fun k => { k with state := .refilling }).serveWaiters .one).2 = [.grant .one .one] := by
  decide +kernel

theorem test_window_check :
    ((drawing.after (.drawWindowCheckExpiry .one)).bank .one).window.map (·.check) = some (some 10000) := by
  decide +kernel

theorem test_deferral : ((ready.modComp fun c => { c with deferral := some 0, deferred := true }).after
    .deferralTimerExpiry).comp.deferred = false := by decide +kernel

/-- N_s written with a deferral running and the ring still full: the timer is recomputed (R62). -/
theorem test_start_limit_recomputed :
    let s := (ready.modLink fun l => { l with clock := 7 }).modComp fun c =>
      { c with deferral := some 0, deferred := true, ring := [1, 5] }
    let t := s.after (.cfgwrite 1 1 0 7 1)
    (t.comp.ring, t.comp.deferred, t.comp.deferral) = ([5], true, some 3598000) := by decide +kernel

theorem test_spin_up :
    let s := ((compIn .starting).modComp fun c => { c with queue := [refillOne] }).after .spinUpExpiry
    s.comp.state = .running ∧ s.comp.delivery = some .one ∧ (s.valve (.cv .one)).commanded = .opened := by decide +kernel

theorem test_progress : ((delivering .running).after .progressTimerExpiry).comp.timer = some 120000 := by decide +kernel

/-- The switch to bank 1 run out and CV(1)'s travel with it, CV(1) not arrived, bank 2 queued (R68). -/
def switchingLate : State :=
  ((delivering .switching).modComp fun c =>
    { c with queue := c.queue ++ [⟨.two, 1, 72000, .auto, 0, 0, none⟩] }).setValve (.cv .one)
      ⟨.opened, still .closed, .ok, some 0, true⟩

/-- The switch expiry and the travel expiry in either order: the outcome is the same, SWITCHING to bank 2 with the switch
at its beginning (R68). -/
theorem test_switch_and_travel_expiry :
    let travelFirst := (switchingLate.after (.valveTravelExpiry (.cv .one))).after .switchTimerExpiry
    let switchFirst := (switchingLate.after .switchTimerExpiry).after (.valveTravelExpiry (.cv .one))
    let outcome (s : State) := (s.comp.state, s.comp.delivery, s.comp.timer, (s.bank .one).state, (s.bank .two).state)
    outcome travelFirst = (.switching, some .two, some 2000, .isolated, .refilling) ∧
      outcome switchFirst = outcome travelFirst := by decide +kernel

/-- A frame of CFGWRITE or CFGREAD with a field out of range is answered before its owner's turn (R3). -/
theorem test_configuration_fields_are_checked :
    let phase (k : Byte) (body : List Byte) := ((ready.takeFrame k 1 body).link.buffer.map (·.phase))
    let answered (k : Byte) (n : Nat) := some (Service.replying ⟨k ||| 0x80, 1, .badValue, 0, n, .none⟩)
    phase 0x10 ([1, 0, 3] ++ word4 499) = answered 0x10 4 ∧ phase 0x10 ([6, 0, 1] ++ word4 1) = answered 0x10 3 ∧
      phase 0x10 ([3, 1, 2] ++ word4 0x01010000) = answered 0x10 4 ∧ phase 0x11 [8, 0, 1] = answered 0x11 1 ∧
      phase 0x11 [6, 0, 1] = some .waiting ∧ phase 0x10 ([1, 0, 3] ++ word4 500) = some .waiting := by decide +kernel

/-- A value that would break a relation passes the range check and is refused at the owner's turn (R35, Log 41). -/
theorem test_relation_is_judged_by_the_owner :
    let body : List Byte := [2, 1, 4] ++ word4 50000
    ((ready.takeFrame 0x10 1 body).link.buffer.map (·.phase)) = some .waiting ∧
      answer (.cfgwrite 1 2 1 4 50000) ready = some (.badValue, 4) := by decide +kernel

/-- A valve of a running fill that sticks open with its shutdown enabled: the fill ends VALVE (Log 40). -/
theorem test_stuck_open_in_a_fill :
    let s := (drawing.setValve (.dv .one) ⟨.closed, still .opened, .ok, some 0, true⟩).after (.valveTravelExpiry (.dv .one))
    ((s.disp .one).fill.bind (·.cause)) = some .valve ∧ s.sup.station = .shutdown := by decide +kernel

theorem test_switch_timer : ((delivering .switching).after .switchTimerExpiry).comp.state = .running := by decide +kernel

theorem test_run_down : ((compIn .unloading).after .runDownExpiry).comp.state = .rest := by decide +kernel

theorem test_rest : ((compIn .rest).after .restTimerExpiry).comp.state = .idle := by decide +kernel

theorem test_mismatch : ((ready.modComp fun c => { c with mismatch := some 0 }).after .mismatchTimerExpiry).comp.state =
    .fault := by decide +kernel

theorem test_thermal_update :
    let s := ready.after .thermalUpdate
    (s.precool.reserve, s.precool.stage1, s.precool.stage2) = (29998500, true, false) := by decide +kernel

/-- Dispenser 1 on the precool wait list, for no grade. -/
def precoolWaiting : State :=
  (inFill .waitPrecool noTimers).modPrecool fun p => { p with waitList := [⟨⟨.one, 200, []⟩, some 0⟩] }

theorem test_precool_wait : ((precoolWaiting.after (.precoolWaitExpiry .one)).disp .one).state = .ending := by
  decide +kernel

theorem test_report_kept : ((ready.after (.vehicleReportFrame .one (report 0))).receiver .one).valid = 1 := by
  decide +kernel

theorem test_report_aborts :
    (((watching .watching).after (.vehicleReportFrame .one (report 2))).disp .one).state = .ending := by decide +kernel

theorem test_report_stale :
    let s := (watching .watching).after (.freshnessTimerExpiry .one)
    (s.receiver .one).fallbacks = 1 ∧ ((s.disp .one).fill.map (·.fallback)) = some true := by decide +kernel

theorem test_report_not_yet_stale :
    (((watching .watching).modReceiver .one fun v => { v with age := 19 }).after (.freshnessTimerExpiry .one)
      ).receiver .one = { (watching .watching).receiver .one with age := 19 } := by decide +kernel

theorem test_authorization_timer :
    ((authorized.after (.authorizationTimerExpiry .one)).disp .one).state = .idle := by decide +kernel

/-- Dispenser 1 in phase PULSE, drawing from bank 1. -/
def pulsing : State :=
  ((inFill (.connecting .pulse) { noTimers with pulse := some 0 }).modBank .one fun k =>
    { k with state := .drawing .one, window := some window }).modBanks fun k =>
      { k with grant := k.grant.set .one (some .one) }

theorem test_pulse_timer :
    let s := pulsing.after (.pulseTimerExpiry .one)
    (s.disp .one).state = .connecting .settle ∧ (s.bank .one).state = .ready := by decide +kernel

theorem test_connection_settle :
    (((inFill (.connecting .settle) { noTimers with settle := some 0 }).after
      (.connectionSettleExpiry .one)).disp .one).state = .leakCheck := by decide +kernel

theorem test_leak_hold :
    ((((inFill .leakCheck { noTimers with leak := some 0 }).modDisp .one fun p => { p with leakRing := [8400] }).after
      (.leakHoldExpiry .one)).disp .one).fill.map (·.cause) = some (some .leak) := by decide +kernel

theorem test_ramp_step :
    let s := fuelling.after (.rampStep .one)
    s.field.pcv.one = 10410 ∧ (s.disp .one).timers.ramp = some 1000 := by decide +kernel

theorem test_fill_time : ((fuelling.after (.fillTimeExpiry .one)).disp .one).fill.map (·.cause) =
    some (some .timeLimit) := by decide +kernel

theorem test_overshoot :
    (((fuelling.modDisp .one fun p => { p with overshoot := true, timers := { p.timers with overshoot := some 0 } }).after
      (.overshootTimerExpiry .one)).disp .one).fill.map (·.cause) = some (some .control) := by decide +kernel

theorem test_halt :
    (((fuelling.modDisp .one fun p => { p with vehicleHalt := true, timers := { p.timers with halt := some 0 } }).after
      (.haltTimerExpiry .one)).disp .one).fill.map (·.cause) = some (some .vehicleHalt) := by decide +kernel

/-- Dispenser 1 in ENDING by its limit, 401 g metered. -/
def ending : State :=
  ((inFill .ending { noTimers with ending := some 0 }).modFill .one fun f => { f with cause := some .limit }).modMeterRec
    .one fun m => { m with pulses := 8020, mass := 401 }

theorem test_ending_settle :
    let s := ending.after (.endingSettleExpiry .one)
    (s.disp .one).state = .idle ∧ (s.meterRec .one).final = some ⟨401, 2000, 1⟩ ∧
      s.log.ring.map (fun e => (e.state, e.mass, e.billed, e.overrun)) = [(.closed, 401, 2000, 1)] := by decide +kernel

theorem test_flow_timer : ((ending.after .flowTimerExpiry).meterRec .one).flow.getLast? = some 401 := by decide +kernel

theorem test_power_on :
    let s := (authorized.modLink fun l => { l with clock := 9 }).after .powerOn
    s.link.clock = 0 ∧ s.log.ring = [entry] ∧ s.sup.station = .startUp .s1 := by decide +kernel

theorem test_reset_line : (ready.after .resetLine).sup.resetKind = .resetLine := by decide +kernel

theorem test_station_reset :
    let s := (((ready.modLink fun l => { l with clock := 9 }).after (.reset 1 0)).after .replySent).after .stationReset
    s.link.clock = 9 ∧ s.sup.resetKind = .station := by decide +kernel

theorem test_station_reset_not_due : (ready.after .stationReset).sup.station = .ready := by decide +kernel

theorem test_idle_step : core.step = step ∧ (ready.elapse.chan .supply).age = 1 := ⟨rfl, by decide +kernel⟩

/-! ## A state that meets the hypotheses of each statement -/

theorem witness_AnEmptyQueueLets100MsPass : ready.pending = [] := rfl

theorem witness_TheReceiverTakesBytes :
    ready.link.receiver = .hunting ∧ (0xA4 : Byte) ≠ 0xA5 ∧
      ([] ++ [(0 : Byte)]).length < 2 ∧
      (fieldAt ([0] ++ [(250 : Byte)]) 0 2 ≤ 250 ∧ ([0] ++ [(250 : Byte)]).length < fieldAt ([0] ++ [250]) 0 2 + 6) ∧
      (2 ≤ ([0] ++ [(251 : Byte)]).length ∧ 250 < fieldAt ([0] ++ [(251 : Byte)]) 0 2) ∧
      (ready.hear [0xA5]).link.receiver = .inside [] ∧ (ready.hear [0xA5, 0]).link.receiver = .inside [0] ∧
      (ready.hear [0xA5]).link.gap.isSome = true := by decide +kernel

theorem witness_BytesOfAFrameAreThatFrame :
    ready.link.receiver = .hunting ∧ (Frame.mk 0x10 1 (List.replicate 250 0) 0).body.length ≤ 250 :=
  ⟨rfl, by decide +kernel⟩

/-- READY with a request in service, nothing noted. -/
def busy : State := ready.holdRequest 0x01 1 [] .waiting

/-- READY with a request in service and another noted. -/
def busyNoted : State := busy.modLink fun l => { l with note := some (2, 2) }

/-- A well-formed STATUS frame. -/
def statusFrame : Frame := ⟨0x01, 9, [], crc16 [0, 0, 0x01, 9]⟩

theorem witness_AFrameIsCheckedAndTaken :
    250 < (List.replicate 251 (0 : Byte)).length ∧ crcAgrees statusFrame ∧ ¬ crcAgrees ⟨0x01, 9, [], 0⟩ ∧
      statusFrame.body.length ≤ 250 ∧ ready.link.buffer = none ∧ ready.hunt.superviseFrame.frameCheck 0x01 [] = none ∧
      ready.hunt.superviseFrame.frameCheck 0x01 [0] = some ⟨.badLength, 0, .none⟩ ∧ busy.link.buffer ≠ none ∧
      busy.link.note = none ∧ busyNoted.link.buffer ≠ none ∧ busyNoted.link.note ≠ none := by
  unfold crcAgrees
  decide +kernel

theorem witness_AFrameIsCheckedAndTaken_checks :
    ready.link.supervision = .off ∧ (ready.modLink fun l => { l with supervision := .lost }).link.supervision = .lost ∧
      bodyLength (0x85 : Byte).toNat = none ∧ bodyLength (0x60 : Byte).toNat = some 2 ∧ [(0 : Byte)].length ≠ 2 ∧
      State.reset.startingUp = true ∧ (0x60 : Byte) ≠ 0x01 ∧ ready.startingUp = false ∧
      fieldChecks (0x60 : Byte).toNat [0, 1] = [(1, true)] ++ (2, false) :: [] ∧
      (∀ c ∈ fieldChecks (0x60 : Byte).toNat [1, 4], c.2 = true) := by decide +kernel

/-- READY with a reply in transmission. -/
def replying (r : Reply) (note : Option (Byte × Byte)) (phase : Reply → Service) : State :=
  (ready.holdRequest 0x05 1 [0] (phase r)).modLink fun l => { l with note := note }

theorem witness_AReplySentEmptiesTheBuffer :
    let r : Reply := ⟨0x81, 1, .ok, 0, 0, .none⟩
    let q : Reply := ⟨0x85, 1, .ok, 0, 0, .none⟩
    (replying r none .replying).link.buffer = some ⟨0x05, 1, [0], .replying r⟩ ∧
      (replying r none .replying).link.note = none ∧ ¬(r.kind = 0x85 ∧ r.result = .ok) ∧ q.kind = 0x85 ∧
      q.result = .ok ∧ ((replying q none .replying).modSup fun u => { u with resetAsked := .asked }).sup.resetAsked = .asked ∧
      (replying r (some (2, 2)) .replying).link.note = some (2, 2) ∧
      (replying r (some (2, 2)) .busyReplying).link.buffer = some ⟨0x05, 1, [0], .busyReplying r⟩ := by decide +kernel

theorem witness_RequestsAreTurnedAwayByTheLink :
    requestOf (.notice 3) = some (0x02, 3, []) ∧ busy.link.buffer = some ⟨0x01, 1, [], .waiting⟩ ∧
      (⟨0x01, 1, [], .waiting⟩ : Request) ≠ ⟨0x02, 3, [], .waiting⟩ ∧ busy.link.note = none ∧
      busyNoted.link.note ≠ none ∧ ready.link.buffer = none ∧ requestOf (.linkset 1 0 2) = some (0x04, 1, [0, 2]) ∧
      ready.superviseFrame.frameCheck 0x04 [0, 2] = some ⟨.badValue, 2, .none⟩ ∧
      State.reset.startingUp = true ∧ State.reset.link.buffer = none ∧ (0x02 : Byte) ≠ 0x01 := by decide +kernel

theorem witness_FieldsOutOfRangeAreNamed :
    ready.link.buffer = none ∧ ready.startingUp = false ∧ 1 < (2 : Byte).toNat ∧ 6 < (7 : Byte).toNat ∧
      (6 : Byte).toNat ≤ 6 ∧ 4 < (5 : Byte).toNat ∧ 3 < (4 : Byte).toNat ∧ (999 : Half).toNat < 1000 ∧
      60000 < (60001 : Half).toNat ∧ 7 < (8 : Byte).toNat ∧ 999999 < (1000000 : Word).toNat ∧
      (999999 : Word).toNat ≤ 999999 ∧ 2 < (3 : Byte).toNat := by decide +kernel

/-- CFGREAD's and CFGWRITE's fields at the edges of their ranges: the index of the field that fails, 0 where none does. -/
theorem witness_FieldsOutOfRangeAreNamed_configuration :
    ([(0, 0, 1), (8, 0, 1), (1, 1, 1), (2, 0, 1), (2, 5, 1), (5, 8, 1), (6, 16, 1), (7, 8, 1), (1, 0, 0), (1, 0, 24),
        (4, 0, 15), (6, 0, 1), (7, 7, 2)].map fun x : Nat × Nat × Nat => (itemBad x.1 x.2.1 x.2.2).getD 0) =
      [1, 1, 2, 2, 2, 2, 2, 2, 3, 3, 3, 0, 0] ∧
    ([(6, 0, 5, 100), (1, 0, 1, 256), (5, 3, 1, 59), (5, 4, 1, 30), (6, 1, 4, 5), (6, 1, 7, 4999), (6, 0, 8, 101),
        (3, 1, 2, 0x01020004), (3, 1, 2, 0x01020304), (4, 0, 6, 1), (4, 0, 6, -600)].map
          fun x : Nat × Nat × Nat × Word => (firstBad (writeChecks x.1 x.2.1 x.2.2.1 x.2.2.2)).getD 0) =
      [3, 4, 4, 0, 4, 4, 4, 4, 0, 4, 0] ∧
    (2, 2, 10000, 100000) ∈ itemRanges := by decide +kernel

/-- One AUTHORIZE for each field that is examined, at the first value past its range. -/
theorem witness_FieldsOutOfRangeAreNamed_authorize :
    [{ auth with disp := 0 }, { auth with disp := 5 }, { auth with tariff := 8 }, { auth with limitKind := 3 },
      { auth with limitKind := 0 }, { auth with limitValue := 0 }, { auth with limitValue := 100000000 },
      { auth with limitKind := 2, limitValue := 100001 }, { auth with selection := 3 },
      { auth with selection := 0, classNo := 16 }, { auth with selection := 2, fallbackKind := 0, classNo := 16 },
      { auth with selection := 2, fallbackKind := 2 }, { auth with capacity := 99 }, { auth with capacity := 60001 },
      { auth with selection := 2, fallbackKind := 1, factor := 24 }, { auth with factor := 101 },
      { auth with selection := 2, fallbackKind := 2, classNo := 16, capacity := 0 },
      { auth with classNo := 16, fallbackKind := 2, unused := 1 }, auth].map
        (fun a => firstBad (authorizeChecks (AuthorizeBody.bytes a))) =
      [some 1, some 1, some 2, some 3, some 4, some 4, some 4, some 4, some 5, some 6, some 6, some 7, some 9, some 9,
        some 10, some 10, some 7, none, none] := by decide +kernel

theorem witness_NoticesArePostedAndReturned :
    ready.Offers 0x02 1 [] (served ready 0x02 1 []) ∧ (served ready 0x02 1 []).link.notices = [] ∧
      (let s := ready.post .bankLow (.bank .two) 600
       s.Offers 0x02 1 [] (served s 0x02 1 []) ∧ (served s 0x02 1 []).link.notices ≠ []) ∧
      resetLink.notices.length < 32 ∧
      ({ resetLink with notices := List.replicate 32 ⟨.bankLow, .station, 0, 0, true⟩ } : Link).notices.length = 32 :=
  ⟨offered _ _ _ _ rfl rfl, rfl, ⟨offered _ _ _ _ rfl rfl, by decide +kernel⟩, by decide, by simp⟩

theorem witness_TheClockAndSupervisionAreSet :
    ready.Offers 0x03 1 (word4 5) (served ready 0x03 1 (word4 5)) ∧
      ready.Offers 0x04 1 [255, 1] (served ready 0x04 1 [255, 1]) ∧ (1 : Byte).toNat ≤ 1 ∧
      ready.Offers 0x10 1 ([1, 0, 1] ++ word4 255) (served ready 0x10 1 ([1, 0, 1] ++ word4 255)) ∧
      (255 : Word).toNat ≤ 255 :=
  ⟨offered _ _ _ _ rfl rfl, offered _ _ _ _ rfl rfl, by decide, offered _ _ _ _ rfl rfl, by decide⟩

theorem witness_SilenceTakesTheLinkAction :
    let silent (s : State) := s.modLink fun l => { l with supervision := .watching, supTimer := some 0 }
    let held := silent authorized
    let stopped := (silent fuelling).modSup fun u =>
      { u with work := { u.work with site := { u.work.site with linkAction := .stop } } }
    (held.link.supervision = .watching ∧ held.link.supTimer = some 0 ∧ held.work.site.linkAction = .hold ∧
      (held.disp .one).state = .authorized ∧ (held.disp .two).state ≠ .authorized ∧
      (held.log.ownEntry .one).isSome = true ∧ held.log.own.get .one = some 1 ∧
      findEntry 1 held.log.ring = some entry) ∧
    (stopped.link.supervision = .watching ∧ stopped.link.supTimer = some 0 ∧
      stopped.work.site.linkAction = .stop ∧ stopped.banks.grant = .fill none ∧
      (stopped.disp .one).state.running = true ∧ (stopped.disp .one).fill = some fill ∧
      (stopped.disp .two).state ≠ .authorized ∧ (stopped.disp .two).state.running = false) := by
  decide +kernel

theorem witness_SilenceTakesTheLinkAction_frame_first :
    let f : Frame := ⟨0x01, 9, [], crc16 [0, 0, 0x01, 9]⟩
    (∃ t, exec (.frameReceived f) ready = .next t) ∧ f.body.length ≤ 250 ∧ crcAgrees f ∧
      ready.work.site.linkTimeout ≠ 0 ∧ ready.link.supTimer ≠ some 0 ∧ State.reset.link.supervision ≠ .watching :=
  ⟨⟨_, rfl⟩, by decide, by unfold crcAgrees; decide +kernel, by decide +kernel, by decide +kernel, by decide +kernel⟩

theorem witness_ReadingChangesNothing :
    ready.Offers 0x01 1 [] (served ready 0x01 1 []) ∧
      ready.Offers 0x26 1 [Four.field .four] (served ready 0x26 1 [Four.field .four]) ∧
      ready.Offers 0x26 1 [0] (served ready 0x26 1 [0]) ∧
      ready.Offers 0x35 1 [Four.field .one] (served ready 0x35 1 [Four.field .one]) ∧
      ready.Offers 0x36 1 [] (served ready 0x36 1 []) ∧ ready.Offers 0x53 1 [] (served ready 0x53 1 []) ∧
      closedLog.Offers 0x40 1 [] (served closedLog 0x40 1 []) ∧
      ((served closedLog 0x40 1 []).log.ring.find? fun e => decide (e.state = .closed)) ≠ none ∧
      (∀ e ∈ authorized.log.ring, e.state ≠ .closed) ∧
      authorized.Offers 0x41 1 (word4 1) (served authorized 0x41 1 (word4 1)) ∧
      findEntry 1 authorized.log.ring = some entry ∧ (∀ e ∈ authorized.log.ring, e.number ≠ 2) ∧
      ready.Offers 0x11 1 [6, 0, 3] (served ready 0x11 1 [6, 0, 3]) ∧ itemBad 8 0 1 = some 1 ∧
      itemBad 6 0 6 = none ∧ readItem ready.work 6 0 6 = some 100 ∧ itemBad 6 0 3 = none ∧
      readItem ready.work 6 0 3 = none := by
  refine ⟨offered _ _ _ _ rfl rfl, offered _ _ _ _ rfl rfl, offered _ _ _ _ rfl rfl, offered _ _ _ _ rfl rfl,
    offered _ _ _ _ rfl rfl, offered _ _ _ _ rfl rfl, offered _ _ _ _ rfl rfl, by decide +kernel, by decide +kernel,
    offered _ _ _ _ rfl rfl, by decide +kernel, by decide +kernel, offered _ _ _ _ rfl rfl, by decide +kernel⟩

/-- The items of a report: a wait with 1,999 ms left reads 1 s (Log 34), and the setpoint is the PCV output's (Log 36). -/
theorem test_reports :
    let s := (waiting.modBanks fun k => { k with wait := k.wait.set .one (some 1999) }).setPcv .one 9940
    (s.bankReport .one).waiters = [(.one, 1)] ∧ (s.dispReport .one).setpoint = 9940 ∧
      s.statusReport.disps = [.fuelling, .idle, .idle, .idle] ∧ s.precoolReport.reservedTotal = 0 := by decide +kernel

theorem witness_ReadstatsReturnsAndClears :
    ready.Offers 0x60 1 [0, 0] (served ready 0x60 1 [0, 0]) ∧
      ready.Offers 0x60 1 [1, Four.field .four] (served ready 0x60 1 [1, Four.field .four]) ∧
      ready.Offers 0x60 1 [2, Four.field .one] (served ready 0x60 1 [2, Four.field .one]) :=
  ⟨offered _ _ _ _ rfl rfl, offered _ _ _ _ rfl rfl, offered _ _ _ _ rfl rfl⟩

theorem witness_ASampleSetsItsChannel :
    (ready.chan .supply).ref ≠ .fail ∧ ((ready.setChan .supply ⟨none, .failed, 0, none, .fail⟩).chan .supply).ref = .fail ∧
      3600 ≤ 3600 ∧ 3600 ≤ 21000 ∧ 3599 < 3600 ∧ 21000 < 21001 ∧ (ready.chan .supply).state = .good := by decide +kernel

theorem witness_SamplesReachTheirOwners :
    ((ready.chan .supply).ref ≠ .fail ∧ (fuelling.disp .one).state.running = true ∧
      (fuelling.disp .one).fill = some fill ∧ (fuelling.chan (.primary .one)).pressure = some 10000 ∧
      (let s := fuelling.setChan (.secondary .one) (good 88501)
       (s.chan (.secondary .one)).pressure = some 88501 ∧ 88500 < max 10000 88501) ∧
      (let s := fuelling.setChan (.primary .one) (good 70000)
       (s.chan (.primary .one)).pressure = some 70000 ∧ (s.chan (.primary .one)).state = .good ∧
         max 70000 10000 ≤ 88500) ∧
      (let s := ready.setChan (.bank .one) (good 44199)
       s.sup.station ≠ .startUp .s1 ∧ (s.chan (.bank .one)).pressure = some 44199 ∧ (s.bank .one).low = false ∧
         44199 < (s.bankCfg .one).refillOn ∧ (s.bank .one).refillFailed = false ∧ (s.bank .one).state ≠ .isolated ∧
         ((s.modBank .one fun k => { k with refillFailed := true }).bank .one).refillFailed = true) ∧
      ((ready.setChan .supply (good 1499)).chan .supply).pressure = some 1499 ∧ ready.comp.supplyLow = false ∧
      ((ready.setChan .supply (good 2000)).chan .supply).pressure = some 2000 ∧
      (ready.modComp fun c => { c with supplyLow := true }).comp.supplyLow = true ∧
      ((ready.setChan .supply (good 1999)).chan .supply).pressure = some 1999) ∧
    (let lost : ChanRec := ⟨none, .invalid, 0, none, .pass⟩
     let alone := (fuelling.setChan (.secondary .one) lost).setChan (.primary .one) (good 88501)
     let other := (fuelling.setChan (.primary .one) lost).setChan (.secondary .one) (good 88501)
     (alone.chan (.primary .one)).pressure = some 88501 ∧ (alone.chan (.secondary .one)).pressure = none ∧
       (other.chan (.primary .one)).pressure = none ∧ (other.chan (.secondary .one)).pressure = some 88501) ∧
    (let s := fuelling.setChan (.primary .one) (good 14941)
     (s.chan (.primary .one)).pressure = some 14941 ∧ (s.chan (.primary .one)).state = .good ∧
       s.higherPressure .one = some 14941 ∧ (s.disp .one).state = .fuelling ∧ (s.disp .one).overshoot = false ∧
       fill.ramp = some ⟨.a, 70000, 470, 4000, 9000, 2, none⟩ ∧ min (9000 + 2 * 470) 70000 + 5000 < 14941) ∧
    (let s := (fuelling.setChan (.primary .one) (good 12439)).modDisp .one fun p => { p with overshoot := true }
     (s.disp .one).overshoot = true ∧ (s.chan (.primary .one)).pressure = some 12439 ∧
       12439 < min (9000 + 2 * 470) 70000 + 2500) ∧
    (let s := inFill .leakCheck { noTimers with leak := some 0 }
     (s.disp .one).state = .leakCheck ∧ (s.chan (.primary .one)).pressure = some 10000 ∧
       s.higherPressure .one = some 10000) ∧
    (let high := (delivering .switching).setChan (.bank .one) (good 53041)
     high.comp.delivery = some .one ∧ high.comp.state = .switching ∧ high.pBank .one = some 53041 ∧
       high.refillEntry .one = some refillOne ∧ (high.bankCfg .one).rated * 102 < 53041 * 100) ∧
    (let full := (delivering .running).setChan (.bank .one) (good 50000)
     full.comp.state = .running ∧ full.pBank .one = some 50000 ∧ 50000 * 100 ≤ (full.bankCfg .one).rated * 102 ∧
       refillOne.target ≤ 50000 ∧ ((full.endDelivery .one).refillEntry .one).isSome = true) := by
  decide +kernel

theorem witness_SamplesReachTheirOwners_dualCheck :
    (let s := fuelling.setChan (.secondary .one) (good 11500)
     (s.chan (.primary .one)).pressure = some 10000 ∧ (s.chan (.secondary .one)).pressure = some 11500 ∧
       (s.chan (.primary .one)).state = .good ∧ (s.chan (.secondary .one)).state = .good ∧ 11500 ≤ 10000 + 1500) ∧
    (10000 + 1500 < 11501 ∧ min 10 (fuelling.field.disagreeCount.get .one + 1) < 10 ∧
      (let s := fuelling.modField fun f => { f with disagreeCount := f.disagreeCount.set .one 9 }
       min 10 (s.field.disagreeCount.get .one + 1) = 10 ∧ s.field.disagree.get .one = false ∧
         (s.disp .one).state.running = true) ∧
      (ready.disp .one).state.running = false) ∧
    ((fuelling.setChan (.secondary .one) ⟨some 0, .invalid, 0, none, .pass⟩).chan (.secondary .one)).state ≠ .good ∧
    (let s := (ready.setChan (.bank .one) (good 50000)).modBank .one fun k => { k with low := true, refillFailed := true }
     s.sup.station ≠ .startUp .s1 ∧ State.reset.sup.station = .startUp .s1 ∧ (s.bank .one).low = true ∧
       (s.chan (.bank .one)).pressure = some 50000 ∧ (s.bankCfg .one).refillTarget ≤ 50000 ∧
       49999 < (s.bankCfg .one).refillTarget ∧ (s.bankCfg .one).refillOn ≤ 44200) := by decide +kernel

theorem witness_AHoldThatExpiresFailsTheChannel :
    (let s := ready.setChan .precoolOutlet ⟨some 1, .invalid, 0, some 0, .pass⟩
     (s.chan .precoolOutlet).state = .invalid ∧ (s.chan .precoolOutlet).hold.isSome = true) ∧
    (drawing.bank .one).state = .drawing .one ∧ drawing.comp.delivery = none ∧ (ready.bank .one).state = .ready ∧
    ((delivering .running).comp.state = .running ∧ (delivering .running).comp.delivery = some .one ∧
      (delivering .running).bank .one = { resetBank with state := .refilling }) ∧
    (let s := ready.setChan .supply ⟨none, .failed, 0, none, .pass⟩
     (s.chan .supply).state = .failed ∧ s.comp.supplyLow = false ∧
       (s.modComp fun c => { c with supplyLow := true }).comp.supplyLow = true) := by decide +kernel

/-- START_UP at S1 with every input settled but ESD. -/
def lastSettling : State :=
  ({ State.reset with field := ready.field }).setSwitch .esd (resetSwitch .closed)

theorem witness_LevelsAreDebounced_others (x : Switch) (h : x ≠ .esd) : (lastSettling.switch x).settled ≠ none := by
  cases x <;> (try rename_i d; cases d) <;> first | exact absurd rfl h | decide +kernel

theorem witness_LevelsAreDebounced :
    ((still .closed).pin ≠ .opened ∧ (changing .closed).settled = some .opened ∧ (changing .closed).pin ≠ .opened ∧
      (still .closed).settled ≠ some .opened ∧
      (let s := ready.setSwitch .esd (resetSwitch .closed)
       (s.switch .esd).timer.isSome = true ∧ (s.switch .esd).settled = none ∧ s.sup.station ≠ .startUp .s1) ∧
      (let s := ready.setSwitch (.holder .one) (changing .opened)
       (s.switch (.holder .one)).timer.isSome = true ∧ (s.switch (.holder .one)).settled ≠ none ∧
         (s.switch (.holder .one)).candidate = .opened) ∧
      ((ready.setSwitch .esd (changing .closed)).switch .esd).candidate = .closed) ∧
    ((State.reset.switch .esd).timer.isSome = true ∧ (State.reset.switch .esd).settled = none ∧
      State.reset.sup.station = .startUp .s1 ∧ (Switch.sealIn ≠ .esd ∧ (State.reset.switch .sealIn).settled = none)) ∧
    ((lastSettling.switch .esd).timer.isSome = true ∧ (lastSettling.switch .esd).settled = none ∧
      lastSettling.sup.station = .startUp .s1) ∧
    firstOpen authorized.log.ring = some entry ∧ firstOpen State.reset.log.ring = none := by
  decide +kernel

/-- An input of a state about to settle at `l`. -/
def expiring (s : State) (w : Switch) (l : Level) : Bool :=
  decide (((s.setSwitch w (changing l)).switch w).timer.isSome = true) &&
    decide (((s.setSwitch w (changing l)).switch w).settled ≠ none) &&
    decide (((s.setSwitch w (changing l)).switch w).candidate = l)

theorem witness_SettledSwitchesGiveTheirEvents :
    (expiring authorized (.startButton .one) .closed = true ∧ (authorized.disp .one).state = .authorized ∧
      ((authorized.setSwitch (.holder .one) (still .opened)).switch (.holder .one)).settled = some .opened ∧
      authorized.sweepActive = false ∧ expiring ready (.stopButton .four) .closed = true ∧
      expiring ready (.holder .two) .closed = true ∧ (ready.disp .two).state ≠ .ended ∧
      ((ready.modDisp .two fun p => { p with state := .ended }).disp .two).state = .ended ∧
      expiring ready .sealIn .opened = true ∧ expiring calibrating .sealIn .closed = true ∧
      calibrating.meter.session = .opened (.fill 20000) ∧ expiring ready .esd .opened = true ∧
      ready.sup.station = .ready) ∧
    ((authorized.chan (.primary .one)).state ≠ .failed ∧ (authorized.chan (.secondary .one)).state ≠ .failed ∧
      authorized.field.disagree.get .one = false ∧
      ((authorized.setChan (.secondary .one) ⟨none, .failed, 0, none, .pass⟩).chan (.secondary .one)).state =
        .failed) := by decide +kernel

theorem witness_SettledSwitchesGiveTheirEvents_gasAlarm :
    expiring ready .gasAlarm .opened = true ∧ ready.sup.station = .ready ∧ ready.work.site.enGas = true ∧
      State.reset.sup.station ≠ .ready ∧
      ((ready.modSup fun u => { u with work := { u.work with site := { u.work.site with enGas := false } } }).work.site.enGas
        = false) := by decide +kernel

theorem test_gas_alarm :
    ((ready.setSwitch .gasAlarm (changing .opened)).after (.debounceExpiry .gasAlarm)).sup.station = .shutdown := by
  decide +kernel

theorem witness_ValvesTravelAndFault :
    (let ok : ValveRec := ⟨.closed, still .closed, .ok, none, false⟩
     let s (r : ValveRec) := ready.setValve (.dv .one) r
     ok.state = .ok ∧ (⟨.closed, still .closed, .stuckOpen, none, false⟩ : ValveRec).state ≠ .ok ∧
       ((s ⟨.closed, changing .opened, .ok, none, false⟩).valve (.dv .one)).feedback.timer.isSome = true ∧
       ((s ⟨.closed, changing .opened, .stuckOpen, none, false⟩).valve (.dv .one)).state ≠ .ok ∧
       ((s ⟨.opened, changing .opened, .ok, some 1, true⟩).valve (.dv .one)).feedback.candidate = .opened ∧
       ((s ⟨.closed, changing .opened, .ok, some 1, true⟩).valve (.dv .one)).travel.isSome = true ∧
       ((s ⟨.closed, resetSwitch .opened, .ok, none, false⟩).valve (.dv .one)).feedback.settled = none ∧
       ((s ⟨.closed, changing .opened, .ok, none, false⟩).valve (.dv .one)).feedback.settled ≠ none ∧
       ((s ⟨.opened, still .closed, .ok, some 0, true⟩).valve (.dv .one)).travel.isSome = true) ∧
    ((⟨.opened, still .opened, .ok, none, true⟩ : ValveRec).inUse = true ∧
      (⟨.closed, still .opened, .ok, some 1, false⟩ : ValveRec).inUse = false ∧
      (fuelling.disp .one).state.running = true ∧ (ready.disp .one).state.running = false) := by decide +kernel

theorem witness_TheMotorIsWatched :
    (ready.modField fun f => { f with running := changing .closed }).field.running.timer.isSome = true ∧
      ready.comp.state ≠ .fault ∧ (ready.modComp fun c => { c with mismatch := some 0 }).comp.mismatch.isSome = true ∧
      ready.work.site.enComp = false ∧ ready.link.notices.length < 32 ∧ (ready.valve (.cv .one)).state = .ok := by
  decide +kernel

theorem witness_TheSweepJudgesChannels :
    (sweeping.field.sweep.phase = .channels ∧ (sweepChannels .a)[(sweeping.field.sweep.conv .a).pos]? =
        some (.primary .one) ∧
      (sweeping.field.sweep.conv .a).reads.length = 4 ∧ (sweeping.field.sweep.conv .b).reads.length < 4 ∧
      (sweepChannels .b)[(sweeping.field.sweep.conv .b).pos]? = some (.bank .one) ∧
      (sweeping.field.sweep.conv .a).pos ≠ 11 ∧ sweepPasses ([8000, 4000, 8000, 20000] ++ [8160]) = true ∧
      sweepPasses ([8000, 4000, 8000, 20000] ++ [8161]) = false ∧
      (sweeping.chan (.primary .one)).state ≠ .failed) ∧
    (let s := sweeping.setChan (.primary .one) ⟨none, .failed, 0, none, .fail⟩
     (s.chan (.primary .one)).state = .failed ∧ (s.chan (.primary .one)).ref = .fail) ∧
    (let s := sweeping.setConv .a ⟨11, [8000, 4000, 8000, 20000]⟩
     (s.field.sweep.conv .a).pos = 11 ∧ (s.field.sweep.conv .a).reads.length = 4 ∧
       (sweepChannels .a)[(s.field.sweep.conv .a).pos]? = some (.outlet .four)) ∧
    (let s := sweeping.setConv .a ⟨12, []⟩
     s.field.sweep.phase = .channels ∧ (sweepChannels .a)[(s.field.sweep.conv .a).pos]? = none) ∧
    ready.field.sweep.phase ≠ .channels := by decide +kernel

theorem witness_TheSweepBeginsAndEnds :
    (let s := ready.modField fun f => { f with sweep := ⟨.valves, ⟨12, []⟩, ⟨7, []⟩, some 0⟩ }
     s.field.sweep.phase = .valves ∧ s.field.sweep.wait.isSome = true ∧ s.sup.station ≠ .startUp .s5 ∧
       (s.modSup fun u => { u with station := .startUp .s5 }).sup.station = .startUp .s5 ∧
       (allValves.all fun v => decide ((s.valve v).feedback.settled = some .closed)) = true) ∧
      sweeping.sweepActive = true ∧ ready.sweepActive = false ∧ fuelling.anyFilling = true ∧
      ready.anyFilling = false ∧ (compIn .running).comp.state ≠ .idle ∧ ready.comp.state = .idle ∧
      ready.Offers 0x08 1 [] (served ready 0x08 1 []) ∧
      (let s (r : ValveRec) := (ready.setValve (.dv .one) r).valve (.dv .one)
       (s ⟨.closed, still .opened, .ok, none, false⟩).feedback.settled = some .opened ∧
         (s ⟨.closed, still .opened, .ok, none, false⟩).state ≠ .stuckOpen ∧
         (s ⟨.closed, still .opened, .stuckOpen, none, false⟩).state = .stuckOpen ∧
         (s ⟨.closed, resetSwitch .closed, .ok, none, false⟩).feedback.settled = none) ∧
      (∀ c, ready.sup.latches.get c = false) ∧
      (let s := ready.modSup fun u => { u with latches := { u.latches with valveStuckOpen := true, compressor := true } }
       s.sup.latches.get .valveStuckOpen = true ∧ SiteCfg.enabled s.work.site .valveStuckOpen = true ∧
         ∀ k, s.sup.latches.get k = true → SiteCfg.enabled s.work.site k = true →
           FaultCause.code .valveStuckOpen ≤ k.code) :=
  ⟨by decide +kernel, by decide +kernel, by decide +kernel, by decide +kernel, by decide +kernel, by decide +kernel, rfl,
    offered _ _ _ _ rfl rfl, by decide +kernel, fun c => by cases c <;> rfl, rfl, rfl,
    fun k => by cases k <;> decide +kernel⟩

theorem witness_TheGrantWalkTakesTheFirstFreeBank :
    (let held := fuelling.modBank .two fun k => { k with state := .drawing .two }
     let none := fuelling.modBanks fun k => { k with position := k.position.set .one (some .four) }
     (fuelling.disp .one).state.asksForBank = true ∧
       (fuelling.dispCfg .one).cascade = [] ++ .one :: [.two, .three, .four] ∧
       fuelling.qualifies .one .one = true ∧ (fuelling.bank .one).state.free = true ∧
       (let s := Four.all.foldl (fun s b => s.modBank b fun k => { k with state := .drawing .two }) fuelling
        s.qualifies .one .one = true ∧ ∀ c ∈ (s.dispCfg .one).cascade, (s.bank c).state.free = false) ∧
       held.qualifies .one .two = true ∧ (∀ c ∈ (none.dispCfg .one).cascade, none.qualifies .one c = false)) ∧
    ((fuelling.dispCfg .one).cascade = [.one] ++ .two :: [.three, .four] ∧ fuelling.qualifies .one .two = true ∧
      (fuelling.bank .two).state.free = true ∧ Four.two ≠ .one) ∧
    ((fuelling.bank .one).state ≠ .refilling ∧ fuelling.banks.grant.get .one = none ∧
      ((delivering .running).bank .one).state = .refilling ∧
      drawing.banks.grant.get .one = some .one ∧ (drawing.bank .two).state ≠ .refilling ∧
      ((drawing.modBank .two fun k => { k with state := .refilling }).bank .two).state = .refilling ∧
      (pulsing.disp .one).state ≠ .fuelling) ∧
    ((drawing.disp .one).state = .fuelling ∧ (drawing.valve (.bv .one .one)).state = .ok ∧
      (drawing.valve (.dv .one)).state = .ok ∧
      (let s := drawing.setValve (.bv .one .one) ⟨.closed, still .closed, .stuckClosed, none, false⟩
       (s.valve (.bv .one .one)).state ≠ .ok) ∧
      (let s := drawing.setValve (.dv .one) ⟨.closed, still .closed, .stuckClosed, none, false⟩
       (s.valve (.dv .one)).state ≠ .ok ∧ (s.valve (.dv .one)).commanded = .closed)) := by
  decide +kernel

/-- The six conditions of R39, each at its bound: P_b at P_min and at P_disp + ΔP_min, and each failing alone. -/
theorem witness_TheGrantWalk_qualifies :
    (fuelling.dispCfg .one).cascade.contains .two = true ∧ fuelling.banks.position.get .one = none ∧
      (let s := fuelling.modBanks fun k => { k with position := k.position.set .one (some .one) }
       (s.bankCfg .one).rank < (s.bankCfg .two).rank ∧ s.qualifies .one .two = true ∧ s.qualifies .one .one = false) ∧
      (let at_ (p : Int) := (fuelling.setChan (.primary .one) (good 69000)).setChan (.bank .two) (good p)
       let least : Int := 69000 + ((at_ 0).work.site.dPMin : Int)
       (at_ least).qualifies .one .two = true ∧ (at_ (least - 1)).qualifies .one .two = false) ∧
      (let at_ (p : Int) := (fuelling.setChan (.primary .one) (good 0)).setChan (.bank .two) (good p)
       let least : Int := ((at_ 0).bankCfg .two).pMin
       (at_ least).qualifies .one .two = true ∧ (at_ (least - 1)).qualifies .one .two = false) := by
  decide +kernel

theorem witness_BanksAreIsolatedAndRestored :
    ready.Offers 0x31 1 [Four.field .one] (served ready 0x31 1 [Four.field .one]) ∧
      (compIn .rest |>.bank .one).state = .ready ∧ (compIn .rest |>.bank .one).waiters = [] ∧
      (compIn .rest).comp.state ≠ .idle ∧ (drawing.bank .one).state = .drawing .one ∧
      (drawing.bank .one).isolatePending = false ∧
      ((drawing.modBank .one fun k => { k with isolatePending := true }).bank .one).isolatePending = true ∧
      ready.Offers 0x32 1 [Four.field .four] (served ready 0x32 1 [Four.field .four]) ∧
      (let s := (compIn .rest).modBank .four fun k => { k with state := .isolated, low := true }
       (s.bank .four).state = .isolated ∧ (s.bank .four).low = true ∧ s.refillEntry .four = none) ∧
      (let s := (compIn .rest).modBank .four fun k => { k with state := .isolated }
       (s.bank .four).low = false) ∧
      ((drawing.bank .one).window = some window ∧
        ((drawing.modBank .one fun k => { k with window := none }).bank .one).window = none ∧
        (ready.bank .one).state ≠ .drawing .one) ∧
      (let s := waiting.modBank .one fun k => { k with state := .ready }
       let r := waiting.modBank .one fun k => { k with state := .refilling }
       (s.bank .one).waiters = .one :: [] ∧ (s.bank .one).state = .ready ∧ (r.bank .one).state = .refilling ∧
         (s.leaveWaitLists .one).qualifies .one .one = true ∧
         ((s.modBank .one fun k => { k with isolatePending := true }).leaveWaitLists .one).qualifies .one .one =
           false) :=
  ⟨offered _ _ _ _ rfl rfl, by decide +kernel, by decide +kernel, by decide +kernel, by decide +kernel,
    by decide +kernel, by decide +kernel, offered _ _ _ _ rfl rfl, by decide +kernel, by decide +kernel,
    by decide +kernel, by decide +kernel⟩

theorem witness_BanksAreIsolated_refilling : ((delivering .running).bank .one).state = .refilling := by decide +kernel

theorem test_isolate_refilling :
    let s := (delivering .running).after (.isolate 1 1)
    (s.bank .one).state = .isolated ∧ (s.valve (.cv .one)).commanded = .closed ∧ s.comp.queue.length = 1 := by
  decide +kernel

theorem witness_BankTimersExpire :
    waiting.waitingOn .one = some .one ∧ waiting.banks.wait.get .one = some 0 ∧ ready.waitingOn .one = none ∧
      (drawing.bank .one).window = some window ∧ window.check.isSome = true ∧ window.failures = 0 ∧
      ((drawing.meterRec .one).pulses - window.nGrant) * 1000 / drawing.meter.cal.factors.get .one < 500 ∧
      (let s := drawing.modMeterRec .one fun m => { m with pulses := 72000 }
       ((s.meterRec .one).pulses - window.nGrant) * 1000 / s.meter.cal.factors.get .one = 3600 ∧
         (s.chan (.bank .one)).state = .good ∧ (s.chan (.bank .one)).pressure = some 49000 ∧
         (52000 - 49000) * (s.bankCfg .one).massFactor / 1000 = 3600) ∧
      3600 + (15 * 3600 / 100 + 100) < 4479 ∧ ({ window with failures := 1 } : Window).failures = 1 := by decide +kernel

theorem witness_BankTimersExpire_mismatch :
    drawing.log.own.get .one = some 1 ∧ findEntry 1 drawing.log.ring = some entry ∧ ready.log.ownEntry .one = none := by
  decide +kernel

theorem witness_RefillQueuesABank :
    (3 : Byte).toNat ≤ 3 ∧
      ready.Offers 0x30 1 [Four.field .one, 3] (served ready 0x30 1 [Four.field .one, 3]) ∧
      (ready.bank .one).state ≠ .isolated ∧ ready.refillEntry .one = none ∧
      (delivering .running).refillEntry .one = some refillOne ∧
      ((ready.modBank .one fun k => { k with state := .isolated }).bank .one).state = .isolated :=
  ⟨by decide, offered _ _ _ _ rfl rfl, by decide +kernel, by decide +kernel, by decide +kernel, by decide +kernel⟩

theorem witness_TheCompressorIsTakenOutOfServiceAndReturned :
    ready.Offers 0x34 1 [] (served ready 0x34 1 []) ∧ ready.Offers 0x33 1 [] (served ready 0x33 1 []) ∧
      ready.comp.state = .idle ∧ (compIn .running).comp.state = .running ∧ (compIn .unloading).comp.state = .unloading ∧
      (compIn .disabled).comp.state = .disabled ∧ (compIn .fault).comp.state = .fault ∧ ready.sup.station ≠ .shutdown ∧
      (ready.modSup fun u => { u with station := .shutdown }).sup.station = .shutdown ∧
      ready.comp.sinceOff < 30000 ∧ 30000 ≤ (ready.modComp fun c => { c with sinceOff := 30000 }).comp.sinceOff ∧
      (compIn .rest).comp.state = .rest ∧ (compIn .disabled).comp.disableCause ≠ some .shutdown ∧
      ((compIn .disabled).modComp fun c => { c with disableCause := some .shutdown }).comp.disableCause =
        some .shutdown ∧
      (compIn .unloading).comp.disablePending ≠ some .shutdown ∧
      ((compIn .unloading).modComp fun c => { c with disablePending := some .shutdown }).comp.disablePending =
        some .shutdown :=
  ⟨offered _ _ _ _ rfl rfl, offered _ _ _ _ rfl rfl, by decide +kernel⟩

/-- READY and idle with bank 1 queued. -/
def queued : State := ready.modComp fun c => { c with queue := [refillOne] }

theorem witness_StartConditionsDecideAStart :
    (ready.modComp fun c => { c with deferral := some 0 }).comp.deferral.isSome = true ∧
      (compIn .rest).comp.state = .rest ∧ (compIn .rest).comp.timer.isSome = true ∧ queued.comp.state = .idle ∧
      (∀ e ∈ queued.comp.queue, queued.atTarget e = false) ∧ queued.sup.station = .ready ∧
      queued.sweepActive = false ∧ queued.comp.supplyLow = false ∧ (queued.chosen []).isSome = true ∧
      queued.ringAllows = true ∧
      (queued.modComp fun c => { c with ring := List.replicate 6 0 }).ringAllows = false ∧
      (ready.chosen []).isSome = false ∧ (compIn .rest).comp.state ≠ .idle := by decide +kernel

theorem witness_DeliveryBegins :
    (let s := (compIn .starting).modComp fun c => { c with queue := [refillOne] }
     s.comp.state = .starting ∧ s.comp.timer.isSome = true ∧ (∀ e ∈ s.comp.queue, s.atTarget e = false) ∧
       s.chosen [] = some refillOne ∧ (s.bank .one).state = .ready ∧ (s.valve (.cv .one)).state = .ok) ∧
      (compIn .starting).chosen [] = none ∧ (delivering .switching).comp.state = .switching ∧
      (delivering .switching).comp.delivery = some .one ∧ (delivering .switching).comp.timer = some 0 ∧
      ready.comp.state ≠ .switching := by
  decide +kernel

/-- A refill entry of bank 2, of higher priority than bank 1's. -/
def refillTwo : RefillEntry := ⟨.two, 2, 72000, .station, 0, 0, none⟩

/-- The compressor between deliveries, banks 1 and 2 queued. -/
def between : State :=
  (compIn .running).modComp fun c => { c with queue := [refillOne, refillTwo], delivery := none }

theorem witness_DeliveryBegins_choice :
    (between.comp.queue = [refillOne] ++ refillTwo :: [] ∧ refillOne.priority < refillTwo.priority ∧
      (between.bank .two).state = .ready ∧ (between.pBank .two).isSome = true ∧ Four.two ∉ ([] : List Four)) ∧
    (between.comp.state = .running ∧ between.comp.delivery = none ∧
      (∀ e ∈ between.comp.queue, between.atTarget e = false) ∧ between.chosen [] = some refillTwo ∧
      (between.valve (.cv .two)).state = .ok ∧ between.chosen [.one, .two] = none ∧
      between.chosen [.two] = some refillOne) ∧
    (let s := between.modBank .two fun k => { k with state := .refilling }
     s.chosen [] = some refillTwo ∧ (s.bank .two).state ≠ .ready) ∧
    (let s := between.setValve (.cv .two) ⟨.closed, still .closed, .stuckClosed, none, false⟩
     (s.bank .two).state = .ready ∧ (s.valve (.cv .two)).state ≠ .ok) ∧
    ((compIn .starting).comp.state = .starting) := by decide +kernel

/-- Bank 1 at the least pressure that its entry's target takes, and one below it (R60). -/
theorem witness_DeliveryBegins_examination :
    let at_ (p : Nat) := between.setChan (.bank .one) (good p)
    (at_ refillOne.target).atTarget refillOne = true ∧ (at_ (refillOne.target - 1)).atTarget refillOne = false ∧
      (at_ refillOne.target).examine.comp.queue = [refillTwo] ∧
      (at_ refillOne.target).examine.link.notices.map (·.kind) = [.refillDone] ∧
      (at_ refillOne.target).comp.choosing .switching = true := by decide +kernel

theorem witness_DeliveryIsCheckedAndRunDown :
    (delivering .running).comp.state = .running ∧ (delivering .running).comp.delivery = some .one ∧
      (delivering .running).comp.timer.isSome = true ∧ (delivering .running).pBank .one = some 49000 ∧
      ((delivering .running).refillEntry .one).bind (·.rise) = some 48000 ∧ 48000 + 500 ≤ 49000 ∧
      ((delivering .running).setChan (.bank .one) (good 48499)).pBank .one = some 48499 ∧
      (compIn .unloading).comp.state = .unloading ∧ (compIn .unloading).comp.disablePending = none ∧
      ((compIn .unloading).modComp fun c => { c with disablePending := some .station }).comp.disablePending =
        some .station ∧
      ready.comp.delivery = none ∧ ready.comp.spell = none ∧
      (delivering .running).comp.spell = some ⟨some 48000⟩ := by decide +kernel

theorem test_unloading_entered :
    let s := (delivering .running).enterUnloading
    s.comp.state = .unloading ∧ s.comp.timer = some 6000 ∧ s.comp.delivery = none ∧ (s.bank .one).state = .ready ∧
      s.comp.queue.map (·.rise) = [none] := by decide +kernel

theorem witness_TheReserveIsBalancedEachSecond :
    ready.precool.waitList = [] ∧ precoolWaiting.precool.waitList = ⟨⟨.one, 200, []⟩, some 0⟩ :: [] ∧
      precoolWaiting.admissionTest ⟨.one, 200, []⟩ = none ∧
      (let q : AdmissionRequest := ⟨.one, 200, [(.a, ⟨70000, 470, 4000⟩)]⟩
       let s := precoolWaiting.modPrecool fun p => { p with waitList := [⟨q, some 0⟩] }
       s.admissionTest q = some (.a, ⟨70000, 470, 4000⟩)) := by decide +kernel

theorem witness_TheReserveIsBalanced_entersFuelling :
    (let s := inFill .leakCheck { noTimers with leak := some 0 }
     (s.disp .one).state = .leakCheck ∧ (s.disp .one).fill = some fill ∧ fill.p0 = some 9000 ∧
       (s.receiver .one).watch ≠ .pending ∧
       (let w := s.modReceiver .one fun v => { v with watch := .pending }
        (w.receiver .one).watch = .pending ∧ (w.receiver .one).freshReport = none) ∧
       (let w (c : VehicleCommand) (age : Nat) := s.modReceiver .one fun v =>
          { v with watch := .pending, last := some ⟨1, 122, 10000, 200, c⟩, fresh := some 0, age := age }
        ((w .run 20).receiver .one).freshReport = some ⟨1, 122, 10000, 200, .run⟩ ∧
          ((w .halt 0).receiver .one).freshReport = some ⟨1, 122, 10000, 200, .halt⟩ ∧
          ((w .run 21).receiver .one).freshReport = none ∧ (s.disp .one).vehicleHalt = false)) ∧
    (fuelling.disp .one).state = .fuelling ∧ (fuelling.chan (.outlet .one)).state ≠ .failed ∧
    ((fuelling.setChan (.outlet .one) ⟨none, .failed, 0, none, .pass⟩).chan (.outlet .one)).state = .failed ∧
    (ending.disp .one).state ≠ .fuelling := by decide +kernel

theorem witness_ReportsAreCheckedAndKept :
    judgeReport [] = .checkFails ∧ judgeReport (report 3) = .outOfRange ∧
      judgeReport (report 0) = .valid ⟨1, 122, 10000, 200, .run⟩ ∧ (ready.receiver .one).watch = .idle ∧
      beValue (((report 0).drop 12).take 2) = (crc16 ((report 0).take 12)).toNat := by
  decide +kernel

/-- A report of a tank at 85.0 °C. -/
def hotReport : List Byte :=
  let bs : List Byte := [0, 0, 1, 0, 122, 0, 0, 0x27, 0x10, 3, 0x52, 0]
  bs ++ beBytes 2 (crc16 bs).toNat

theorem witness_ReportsAreActedOnWhileWatched :
    (judgeReport (report 0) = .valid ⟨1, 122, 10000, 200, .run⟩ ∧ judgeReport (report 1) = .valid ⟨1, 122, 10000, 200, .halt⟩ ∧
      judgeReport (report 2) = .valid ⟨1, 122, 10000, 200, .abort⟩ ∧
      judgeReport hotReport = .valid ⟨1, 122, 10000, 850, .run⟩ ∧
      ((watching .pending).receiver .one).watch = .pending ∧ ((watching .watching).receiver .one).watch = .watching ∧
      ((watching .watching).disp .one).fill = some fill ∧ fill.snapshot ≠ none ∧
      10000 * 28815 * 100 / (70000 * (27315 + 10 * (200 : Int)).toNat) < 95 ∧
      95 ≤ 70000 * 28815 * 100 / (70000 * (27315 + 10 * (200 : Int)).toNat) ∧
      ((watching .watching).chan (.primary .one)).pressure = some 10000 ∧
      ((watching .watching).disp .one).vehicleHalt = false ∧
      (let s := (watching .watching).setChan (.primary .one) (good 15001)
       (s.chan (.primary .one)).pressure = some 15001 ∧ 10000 + 5000 < 15001) ∧
      (((watching .watching).modReceiver .one fun v => { v with disagree := 2 }).receiver .one).disagree = 2) ∧
    (((watching .watching).receiver .one).fresh.isSome = true ∧ 20 ≤ ((watching .watching).receiver .one).age ∧
      (((watching .watching).modReceiver .one fun v => { v with age := 19 }).receiver .one).age < 20 ∧
      (fuelling.receiver .one).fresh = none) ∧
    ((fuelling.disp .one).state = .fuelling ∧ (fuelling.disp .one).fill = some fill ∧
      (∃ sn r row, fill.snapshot = some sn ∧ fill.ramp = some r ∧
        (sn.ramp.find? fun x => decide (x.1 = r.grade)) = some (r.grade, row) ∧ 10000 < sn.target .hp sn.socNc row ∧
          sn.target .hp sn.socNc row ≤ 87500) ∧
      (fuelling.chan (.primary .one)).pressure = some 10000 ∧
      ((fuelling.setChan (.primary .one) (good 87500)).chan (.primary .one)).pressure = some 87500 ∧
      ((fuelling.setChan (.primary .one) (good 87500)).chan (.primary .one)).state = .good) :=
  ⟨by decide +kernel, by decide +kernel, by decide +kernel, by decide +kernel,
    ⟨_, _, ⟨470, 8, 120⟩, rfl, rfl, by decide +kernel, by decide +kernel, by decide +kernel⟩, by decide +kernel,
    by decide +kernel, by decide +kernel⟩

/-- A snapshot at 20.0 °C. -/
def snapshot : Snapshot :=
  ⟨200, ⟨.noncomm, .user, 5000, 100, some 43000, 95⟩, [(.a, ⟨470, 8, 120⟩)], 200, 95⟩

theorem witness_TheTargetIsTheLeastOfThree :
    (0 : Int) ≤ 27315 + 10 * (snapshot.tAmb + (120 : Nat)) ∧ snapshot.vehicle.pCls = some 43000 ∧
      (Grade.a, RampRow.mk 470 8 120) ∈ snapshot.ramp ∧
      (snapshot.ramp.find? fun x => decide (x.1 = .a)) = some (.a, ⟨470, 8, 120⟩) := by decide +kernel

theorem witness_TheRampRateIsClamped : (60 : Int) ≤ (RampRow.mk 470 8 120).r0 := by decide

theorem witness_HeatIsReservedAndCharged :
    ((Grade.a, factoryPrecool.a) ∈ [(Grade.a, factoryPrecool.a), (.b, factoryPrecool.b), (.c, factoryPrecool.c)] ∧
      factoryPrecool.a.tPc ≤ 350 ∧ (-600 : Int) ≤ factoryPrecool.a.tPc ∧ 9000 < 70000 ∧
      ({ resetPrecool with table := .fill (some ⟨some .a, 1200, 5000, 0⟩) } : Precool).table.get .one =
        some ⟨some .a, 1200, 5000, 0⟩) ∧
    (let c := ready.work.precool
     (ready.chan .precoolOutlet).state = .good ∧ (ready.chan .precoolOutlet).value = some (-380) ∧
       (-380 : Int) ≤ c.a.tLim ∧ ready.precool.table = .fill none ∧
       (c.a.floor : Int) ≤ (ready.precool.reserve : Int) - 0 - (4000 * heatPerGram c 200 .a : Nat) ∧
       ¬((c.a.floor : Int) ≤ (ready.precool.reserve : Int) - 0 - (40000 * heatPerGram c 200 .a : Nat)) ∧
       ready.precool.waitList = [] ∧ precoolWaiting.precool.waitList ≠ []) := by decide +kernel

theorem witness_AMoneyLimitIsTheGreatestMass : 0 < 1450 := by decide

/-- The body of the AUTHORIZE of these tests. -/
def authBytes : List Byte := AuthorizeBody.bytes auth

theorem witness_AnAuthorizeIsAccepted :
    let u := served priced 0x20 1 authBytes
    priced.Offers 0x20 1 authBytes u ∧ firstBad (authorizeChecks authBytes) = none ∧ auth.disp = Four.field .one ∧
      (u.disp .one).state = .idle ∧ u.sup.station = .ready ∧ u.meter.session = .none ∧ u.meter.cal.agrees = true ∧
      u.sup.latches.metrology = false ∧ u.log.ring.length < 64 ∧ u.log.counter < 4294967295 ∧
      u.sup.resetPending = false ∧ (u.saleOf .one auth).price ≠ 0 ∧
      captureVehicle u.work (u.dispCfg .one).nozzle auth = .inr ⟨.user, 5000, 100, none, none⟩ ∧
      100 ≤ (u.saleOf .one auth).mLim := by
  refine ⟨offered _ _ _ _ rfl rfl, ?_⟩
  decide +kernel

theorem witness_AnAuthorizeIsRefusedInOrder :
    (authorized.disp .one).state ≠ .idle ∧
      (ready.modSup fun u => { u with station := .shutdown }).sup.station ≠ .ready ∧ calibrating.meter.session ≠ .none ∧
      (let s := ready.modMeter fun m => { m with cal := { m.cal with audit := 1 } }
       s.meter.cal.agrees = false) ∧
      (let s := ready.modSup fun u => { u with latches := { u.latches with metrology := true } }
       s.meter.cal.agrees = true ∧ s.sup.latches.metrology = true) ∧
      64 ≤ (ready.modLog fun g => { g with ring := List.replicate 64 entry }).log.ring.length ∧
      4294967295 ≤ (ready.modLog fun g => { g with counter := 4294967295 }).log.counter ∧
      (ready.saleOf .one auth).price = 0 ∧ (priced.saleOf .one auth).price ≠ 0 ∧
      captureVehicle priced.work .hp { auth with selection := 0, classNo := 1 } = .inl .classUndefined ∧
      captureVehicle priced.work .hp { auth with limitValue := 499 } = .inr ⟨.user, 5000, 100, none, none⟩ ∧
      (priced.saleOf .one { auth with limitValue := 499 }).mLim = 99 := by decide +kernel

theorem witness_PreStartClosesLeaveNoFill :
    (authorized.disp .one).state = .authorized ∧ authorized.log.own.get .one = some 1 ∧
      findEntry 1 authorized.log.ring = some entry ∧ (ready.disp .one).state.running = false ∧
      (ready.disp .one).state ≠ .authorized ∧ (authorized.disp .one).timers.auth.isSome = true ∧
      authorized.Offers 0x21 1 [Four.field .one] (served authorized 0x21 1 [Four.field .one]) ∧
      ((served authorized 0x21 1 [Four.field .one]).disp .one).state = .authorized ∧
      ready.Offers 0x21 1 [Four.field .one] (served ready 0x21 1 [Four.field .one]) ∧
      ready.Offers 0x22 1 [Four.field .four] (served ready 0x22 1 [Four.field .four]) :=
  ⟨by decide +kernel, by decide +kernel, by decide +kernel, by decide +kernel, by decide +kernel, by decide +kernel,
    offered _ _ _ _ rfl rfl, by decide +kernel, offered _ _ _ _ rfl rfl, offered _ _ _ _ rfl rfl⟩

theorem witness_DispensersAreOpenedClosedAndCleared :
    ready.Offers 0x23 1 [Four.field .one] (served ready 0x23 1 [Four.field .one]) ∧
      ready.Offers 0x24 1 [Four.field .four] (served ready 0x24 1 [Four.field .four]) ∧
      ready.Offers 0x23 1 [0] (served ready 0x23 1 [0]) ∧ ready.Offers 0x24 1 [0] (served ready 0x24 1 [0]) ∧
      ready.Offers 0x22 1 [0] (served ready 0x22 1 [0]) ∧
      ready.Offers 0x25 1 [Four.field .one] (served ready 0x25 1 [Four.field .one]) ∧
      (ready.disp .one).state ≠ .fault ∧
      (let s := (ready.modDisp .one fun p => { p with state := .fault })
       (s.disp .one).state = .fault ∧ (s.switch (.holder .one)).settled = some .closed ∧
         ((s.setSwitch (.holder .one) (still .opened)).switch (.holder .one)).settled ≠ some .closed) :=
  ⟨offered _ _ _ _ rfl rfl, offered _ _ _ _ rfl rfl, offered _ _ _ _ rfl rfl, offered _ _ _ _ rfl rfl,
    offered _ _ _ _ rfl rfl, offered _ _ _ _ rfl rfl, by decide +kernel, by decide +kernel⟩

theorem witness_TheConnectionIsPulsedSettledAndHeld :
    ((let s := drawing.modDisp .one fun p => { p with state := .connecting .bank }
      (s.disp .one).state = .connecting .bank ∧ s.banks.grant.get .one = some .one ∧
        (s.valve (.bv .one .one)).state = .ok ∧ (s.valve (.dv .one)).state = .ok) ∧
      (pulsing.disp .one).state = .connecting .pulse ∧ (pulsing.disp .one).timers.pulse.isSome = true ∧
      pulsing.banks.grant.get .one = some .one ∧
      (let s := inFill (.connecting .settle) { noTimers with settle := some 0 }
       (s.disp .one).state = .connecting .settle ∧ (s.disp .one).timers.settle.isSome = true ∧
         ((s.setChan (.primary .one) (good 499)).chan (.primary .one)).pressure = some 499 ∧
         ((s.setChan (.primary .one) (good 500)).chan (.primary .one)).pressure = some 500) ∧
      (let s := inFill .leakCheck { noTimers with leak := some 0 }
       (s.disp .one).state = .leakCheck ∧ (s.disp .one).timers.leak.isSome = true ∧ (s.disp .one).leakRing = [] ∧
         fill.p0 = some 9000 ∧ s.work.site.leakDrop < 9000 - 8499 ∧ 9000 - 8500 ≤ s.work.site.leakDrop)) ∧
    (let r (v : Option Int) (st : ChanState) (age : Nat) : ChanRec := ⟨v, st, age, none, .pass⟩
     ambientStage (r none .invalid 0) = none ∧ ambientStage (r (some 200) .invalid 6001) = none ∧
       ambientStage (r (some 501) .good 0) = none ∧ ambientStage (r (some 500) .invalid 6000) = some 500 ∧
       ambientStage (r (some (-401)) .good 9000) = some (-400) ∧
       ambientStage (r (some (-400)) .good 0) = some (-400)) ∧
    (let c : Captured := ⟨.user, 5000, 100, none, none⟩
     let s := (inFill .leakCheck noTimers).modDisp .one fun p => { p with captured := some c }
     (s.disp .one).fill = some fill ∧ (s.disp .one).captured = some c ∧ fill.p0 = some 9000 ∧
       (s.meterRec .one).sale = some sale ∧ ambientStage (s.chan .ambient) = some 200 ∧
       ambientStage ((s.setChan .ambient (good 501)).chan .ambient) = none ∧
       9000 < (((s.plan .one).1.disp .one).fill.bind (·.least)).getD 0 ∧
       (((s.plan .one).1.disp .one).fill.bind (·.least)).getD 0 ≤ 87500) ∧
    ((ready.receiver .one).fresh = none ∧
      (let s := fuelling.modReceiver .one fun v =>
         { v with last := some ⟨1, 122, 10000, 200, .run⟩, fresh := some 0, age := 20 }
       (s.receiver .one).freshReport = some ⟨1, 122, 10000, 200, .run⟩ ∧
         ((s.modReceiver .one fun v => { v with age := 21 }).receiver .one).freshReport = none)) := by
  decide +kernel

theorem witness_TheRampStepsToTheTarget :
    ((fuelling.disp .one).state = .fuelling ∧ (fuelling.disp .one).timers.ramp.isSome = true ∧
      (fuelling.disp .one).fill = some fill ∧ fill.ramp = some ⟨.a, 70000, 470, 4000, 9000, 2, none⟩ ∧
      fuelling.banks.grant.get .one = none ∧ fuelling.precool.table.get .one = none) ∧
    (let s := fuelling.modPrecool fun p => { p with table := p.table.set .one (some ⟨some .a, 1200, 5000, 4⟩) }
     s.precool.table.get .one = some ⟨some .a, 1200, 5000, 4⟩ ∧
       (Grade.a, s.work.precool.a) ∈
         [(Grade.a, s.work.precool.a), (.b, s.work.precool.b), (.c, s.work.precool.c)] ∧
       (s.chan (.outlet .one)).state = .good ∧ (s.chan (.outlet .one)).value = some (-350) ∧
       (-350 : Int) ≤ s.work.precool.a.tLim + 20 ∧ s.work.precool.a.tLim + 20 < -309 ∧
       lowerGrade (s.fillNozzle .one) .a = some .b ∧ lowerGrade (s.fillNozzle .one) .c = none) ∧
    (let s := fuelling.modPrecool fun p => { p with table := p.table.set .one (some ⟨none, 0, 0, 0⟩) }
     s.precool.table.get .one = some ⟨none, 0, 0, 0⟩) ∧
    (∃ sn r row, fill.snapshot = some sn ∧ fill.ramp = some r ∧
      (sn.ramp.find? fun x => decide (x.1 = .b)) = some (.b, row) ∧ 10000 < sn.target .hp sn.vehicle.soc row ∧
        sn.target .hp sn.vehicle.soc row ≤ 87500) :=
  ⟨by decide +kernel, by decide +kernel, by decide +kernel,
    ⟨_, _, ⟨380, 7, 200⟩, rfl, rfl, by decide +kernel, by decide +kernel, by decide +kernel⟩⟩

theorem witness_TheRampSteps_switchTests :
    ((drawing.disp .one).state = .fuelling ∧ drawing.banks.grant.get .one = some .one ∧
      drawing.waitingOn .one = none ∧ (drawing.disp .one).fill = some fill) ∧
    (let at_ (p : Int) := drawing.setChan (.bank .one) (good p)
     let least := 10000 + drawing.work.site.dPSwitch
     (at_ 0).pDisp .one = some 10000 ∧ (at_ least).pBank .one = some least ∧
       (at_ (least - 1)).marginLow .one .one = true ∧ (at_ least).marginLow .one .one = false) ∧
    ((drawing.setChan (.bank .one) ⟨none, .failed, 0, none, .pass⟩).pBank .one = none) ∧
    (let behind (p : Int) := (drawing.setChan (.primary .one) (good p)).modBanks fun k => { k with lag := k.lag.set .one 2 }
     let least : Int := 9940 - (drawing.work.site.lagLimit : Int)
     (behind (least - 1)).lagAfter .one 9940 = 3 ∧ (behind least).lagAfter .one 9940 = 0) ∧
    ((waiting.waitingOn .one).isSome = true ∧ fuelling.banks.grant.get .one = none) := by decide +kernel

theorem witness_TimersEndFills :
    (fuelling.disp .one).state = .fuelling ∧ (fuelling.disp .one).timers.fill.isSome = true ∧
      (let s := fuelling.modDisp .one fun p =>
        { p with overshoot := true, vehicleHalt := true, timers := { p.timers with overshoot := some 0, halt := some 0 } }
       (s.disp .one).overshoot = true ∧ (s.disp .one).timers.overshoot.isSome = true ∧
         (s.disp .one).vehicleHalt = true ∧ (s.disp .one).timers.halt.isSome = true) ∧
      (PrecoolPlace.mk ⟨.one, 200, []⟩ (some 0)) ∈ precoolWaiting.precool.waitList := by decide +kernel

theorem witness_ARunningFillEnds :
    (drawing.disp .one).state.running = true ∧ (drawing.valve (.dv .one)).state = .ok ∧
      (drawing.valve (.bv .one .one)).state = .ok ∧ (fuelling.disp .one).state.running = true ∧
      fuelling.banks.grant.get .one = none := by decide +kernel

theorem witness_TheSettleFinalisesTheFill :
    (ending.disp .one).state = .ending ∧ (ending.disp .one).timers.ending.isSome = true ∧
      (ending.disp .one).fill = some { fill with cause := some .limit } ∧ (ending.meterRec .one).sale = some sale ∧
      ending.log.own.get .one = some 1 ∧ findEntry 1 ending.log.ring = some entry := by decide +kernel

theorem witness_PulsesAreMetered :
    (fuelling.disp .one).state.filling = true ∧ (ready.disp .one).state.filling = false ∧
      ((fuelling.modMeterRec .one fun m => { m with pulses := 4294967295 }).meterRec .one).pulses = 4294967295 ∧
      (0 + 1) * 1000 / 20000 ≤ 0 ∧ 0 < (19 + 1) * 1000 / 20000 ∧ ((19 + 1) * 1000 / 20000) % 50 ≠ 0 ∧
      (fuelling.meterRec .one).sale = some sale ∧ (7398 + 1) * 1000 / 20000 < sale.mLim - sale.closeAhead ∧
      sale.mLim - sale.closeAhead ≤ (7419 + 1) * 1000 / 20000 ∧ (fuelling.disp .one).state.running = true ∧
      (198 + 1) * 1000 / 20000 < 10 ∧ 10 ≤ (199 + 1) * 1000 / 20000 := by decide +kernel

theorem witness_PulsesAreMetered_marks :
    0 < (999 + 1) * 1000 / 20000 ∧ ((999 + 1) * 1000 / 20000) % 50 = 0 ∧
      (999 + 1) * 1000 / 20000 < sale.mLim - sale.closeAhead ∧ (ending.disp .one).state = .ending ∧
      (ending.disp .one).state.filling = true ∧ 401 < (8039 + 1) * 1000 / 20000 := by decide +kernel

/-- The pulse that makes 50 g takes a checkpoint. -/
theorem test_mark_checkpoint :
    let s := (fuelling.modMeterRec .one fun m => { m with pulses := 999, mass := 49 }).after (.meterPulse .one)
    s.log.ring.map (·.mass) = [50] ∧ (s.log.checkpoints.get .one).isSome = true := by decide +kernel

theorem witness_CalibrationOpensWritesAndCloses :
    ready.Offers 0x50 1 [] (served ready 0x50 1 []) ∧
      ready.Offers 0x51 1 ([Four.field .four] ++ half2 60000) (served ready 0x51 1 ([Four.field .four] ++ half2 60000)) ∧
      1000 ≤ (60000 : Half).toNat ∧ (60000 : Half).toNat ≤ 60000 ∧
      calibrating.Offers 0x52 1 [] (served calibrating 0x52 1 []) ∧ calibrating.meter.session = .opened (.fill 20000) ∧
      ready.meter.session = .none ∧ (ready.switch .sealIn).settled ≠ some .opened ∧
      (calibrating.switch .sealIn).settled = some .opened ∧ fuelling.forecourtAtRest = false ∧
      ready.forecourtAtRest = true ∧ ready.meter.cal.audit < 65535 ∧
      (let s := (calibrating.after (.calClose 1))
       (match s.meter.session with | .storing _ => true | _ => false) = true ∧
         s.link.buffer = some ⟨0x52, 1, [], .storing⟩) :=
  ⟨offered _ _ _ _ rfl rfl, offered _ _ _ _ rfl rfl, by decide, by decide, offered _ _ _ _ rfl rfl, by decide +kernel,
    by decide +kernel, by decide +kernel, by decide +kernel, by decide +kernel, by decide +kernel, by decide +kernel,
    by decide +kernel⟩

theorem witness_SettleAnswersByTheEntrysState :
    closedLog.Offers 0x42 1 (word4 1) (served closedLog 0x42 1 (word4 1)) ∧
      findEntry 1 closedLog.log.ring = some { entry with state := .closed } ∧
      (∀ e ∈ closedLog.log.ring, e.number ≠ 2) ∧ findEntry 1 authorized.log.ring = some entry ∧
      findEntry 1 (authorized.modLog fun g => { g with ring := [{ entry with state := .settled }] }).log.ring =
        some { entry with state := .settled } :=
  ⟨offered _ _ _ _ rfl rfl, by decide +kernel⟩

theorem witness_TheLogsStoresComplete :
    (let s := priced.after (.authorize 1 auth)
     s.log.creation ≠ none ∧ (s.log.creation.map (·.entry.state)) = some .opened ∧ s.log.stores = [.create] ∧
       s.log.ring.length < 55 ∧ s.link.buffer = some ⟨0x20, 1, authBytes, .storing⟩) ∧
      (authorized.after (.cancel 1 1)).log.stores.length = 1 ∧ (closedLog.after (.settle 1 1)).log.stores =
        [.settle 1 2] ∧
      (fuelling.checkpoint .one).log.checkpoints.get .one ≠ none ∧ (fuelling.checkpoint .one).log.creation = none ∧
      recovering.log.recovering ≠ none ∧
      (let s := (recovering.modLog fun g => { g with ring := [entry, { entry with number := 2 }] }).after
        .logRecoveryStoreComplete
       firstOpen s.log.ring = some { entry with number := 2 }) ∧
      (let s (n : Nat) := ready.modLog fun g => { g with ring := List.replicate n entry }
       (s 55).log.ring.length = 55 ∧ (s 56).log.ring.length = 56 ∧ (s 64).log.ring.length = 64 ∧
         (s 64).log.nearFull = false ∧ (s 64).log.full = false) ∧
      (ready.log.ownEntry .one = none ∧ fuelling.log.own.get .one = some 1 ∧
        findEntry 1 fuelling.log.ring = some entry ∧ (fuelling.meterRec .one).sale = some sale ∧
        (fuelling.disp .one).fill = some fill) := by decide +kernel

/-- A recovered entry: the last item of a held bank takes the mass that the items before it leave (R177). -/
theorem test_recovered_usage :
    (State.reset.recovered { entry with mass := 450, usage := [⟨.one, 300⟩, ⟨.two, 0⟩], held := true }).usage =
        [⟨.one, 300⟩, ⟨.two, 150⟩] ∧
      (State.reset.recovered { entry with mass := 250, usage := [⟨.one, 300⟩, ⟨.two, 0⟩], held := true }).usage =
        [⟨.one, 300⟩, ⟨.two, 0⟩] ∧
      [(⟨.one, 300⟩ : UsageItem), ⟨.two, 0⟩] = [⟨.one, 300⟩] ++ [⟨.two, 0⟩] ∧
      (State.reset.recovered { entry with usage := [⟨.one, 300⟩] }).usage = [⟨.one, 300⟩] := by decide +kernel

theorem witness_WhatIsWrittenIsReadBack :
    itemBad 3 1 2 = none ∧ ¬(3 = 2 ∧ 2 = 1) ∧
      (match writeConfig factoryConfig 3 1 2 0x01020304 with | .inr _ => true | .inl _ => false) = true := by
  decide +kernel

theorem witness_ConfigurationIsWrittenAndSaved :
    ready.Offers 0x10 1 ([7, 0, 1] ++ word4 5) (served ready 0x10 1 ([7, 0, 1] ++ word4 5)) ∧
      itemBad 8 0 1 = some 1 ∧ itemBad 7 0 1 = none ∧
      (match writeConfig ready.work 7 0 1 1000000 with | .inl n => n | .inr _ => 0) = 4 ∧
      (match writeConfig ready.work 7 0 1 5 with | .inr _ => true | .inl _ => false) = true ∧
      (fuelling.disp .one).state ≠ .closed ∧ (fuelling.disp .one).state ≠ .idle ∧
      (drawing.bank .one).state ≠ .ready ∧ (drawing.bank .one).state ≠ .isolated ∧
      ready.Offers 0x13 1 ([7] ++ word4 999999 ++ word4 0) (served ready 0x13 1 ([7] ++ word4 999999 ++ word4 0)) ∧
      ready.Offers 0x07 1 [6, 1] (served ready 0x07 1 [6, 1]) ∧ ready.sup.latches.compressor = false ∧
      (ready.modSup fun u => { u with latches := { u.latches with compressor := true } }).sup.latches.compressor = true ∧
      ready.Offers 0x12 1 [] (served ready 0x12 1 []) ∧
      (ready.modSup fun u => { u with saving := some factoryConfig }).sup.saving = some factoryConfig :=
  ⟨offered _ _ _ _ rfl rfl, by decide +kernel, by decide +kernel, by decide +kernel, by decide +kernel,
    by decide +kernel, by decide +kernel, by decide +kernel, by decide +kernel, offered _ _ _ _ rfl rfl,
    offered _ _ _ _ rfl rfl, by decide +kernel, by decide +kernel, offered _ _ _ _ rfl rfl, rfl⟩

/-- Whether a configuration write is taken. -/
def writes (group index item : Nat) (v : Word) : Bool :=
  decide (itemBad group index item = none) &&
    match writeConfig ready.work group index item v with | .inr _ => true | .inl _ => false

theorem witness_ConfigurationIsWritten_effects :
    ready.Offers 0x10 1 ([1, 0, 7] ++ word4 1) (served ready 0x10 1 ([1, 0, 7] ++ word4 1)) ∧
      writes 1 0 3 10000 = true ∧ writes 1 0 18 100 = true ∧ writes 1 0 19 1 = true ∧ writes 1 0 23 0 = true ∧
      writes 1 0 7 1 = true ∧ writes 2 1 7 0 = true ∧ writes 3 4 3 1 = true ∧ writes 4 0 1 5000000 = true ∧
      ready.comp.deferral = none ∧
      (let s := ready.modComp fun c => { c with deferral := some 0, ring := [5, 6] }
       s.comp.deferral ≠ none ∧ (s.comp.ring.drop (2 - 1)).head? = some 6 ∧ ¬([6].length < (1 : Word).toNat) ∧
         3600 ≤ (s.link.clock - 6).toNat ∧ ¬(3600 ≤ ((7 : Word) - 6).toNat)) ∧
      (ready.bank .one).state = .ready ∧ (ready.disp .one).state = .idle ∧
      ready.Offers 0x10 1 ([2, Four.field .one, 1] ++ word4 2) (served ready 0x10 1 ([2, Four.field .one, 1] ++ word4 2)) ∧
      writes 2 1 1 2 = true ∧
      (Four.all.find? fun x => decide ((ready.bankCfg x).rank = (2 : Word).toNat)) = some .two ∧
      (ready.bankCfg .one).rank ≠ 2 ∧ (drawing.bank .one).state ≠ .ready ∧ fuelling.anyFilling = true ∧
      ready.anyFilling = false :=
  ⟨offered _ _ _ _ rfl rfl, by decide +kernel, by decide +kernel, by decide +kernel, by decide +kernel,
    by decide +kernel, by decide +kernel, by decide +kernel, by decide +kernel, rfl, by decide +kernel, by decide +kernel,
    by decide +kernel, offered _ _ _ _ rfl rfl, by decide +kernel, by decide +kernel, by decide +kernel,
    by decide +kernel, by decide +kernel, by decide +kernel⟩

/-- ACTSET of causes 1 to 5, the link items, and a write of the rank that a DRAWING bank already has (Log 23). -/
theorem witness_ConfigurationIsWritten_causes :
    ready.Offers 0x07 1 [1, 1] (served ready 0x07 1 [1, 1]) ∧ FaultCause.code .esd = (1 : Byte).toNat ∧
      ready.Offers 0x07 1 [2, 0] (served ready 0x07 1 [2, 0]) ∧ FaultCause.code .gasAlarm = (2 : Byte).toNat ∧
      ready.Offers 0x07 1 [5, 1] (served ready 0x07 1 [5, 1]) ∧ FaultCause.code .metrology = (5 : Byte).toNat ∧
      (1 : Byte).toNat ≤ 1 ∧ ready.sup.latches.get .metrology = false ∧
      (ready.modSup fun u => { u with latches := u.latches.set .metrology true }).sup.latches.get .metrology = true ∧
      ready.Offers 0x10 1 ([1, 0, 2] ++ word4 1) (served ready 0x10 1 ([1, 0, 2] ++ word4 1)) ∧
      writes 1 0 2 1 = true ∧ writes 1 0 1 255 = true ∧
      drawing.Offers 0x10 1 ([2, 1, 1] ++ word4 1) (served drawing 0x10 1 ([2, 1, 1] ++ word4 1)) ∧
      (drawing.bankCfg .one).rank = (1 : Word).toNat ∧ (drawing.bank .one).state ≠ .ready ∧
      (drawing.bank .one).state ≠ .isolated :=
  ⟨offered _ _ _ _ rfl rfl, rfl, offered _ _ _ _ rfl rfl, rfl, offered _ _ _ _ rfl rfl, rfl, by decide, rfl, rfl,
    offered _ _ _ _ rfl rfl, by decide +kernel, by decide +kernel, offered _ _ _ _ rfl rfl, by decide +kernel,
    by decide +kernel, by decide +kernel⟩

/-- A write of the rank that the bank already has: OK where it is READY, STATE where it is DRAWING (Log 23). -/
theorem test_same_rank :
    answer (.cfgwrite 1 2 1 1 1) ready = some (.ok, 0) ∧ answer (.cfgwrite 1 2 1 1 1) drawing = some (.notNow, 1) := by
  decide +kernel

theorem test_link_action_written :
    let s := ready.after (.cfgwrite 1 1 0 2 1)
    s.work.site.linkAction = .stop ∧ s.link.supTimer.isSome = decide (s.work.site.linkTimeout ≠ 0) := by decide +kernel

theorem witness_ResetAndResumeAreTaken :
    fuelling.Offers 0x05 1 [0] (served fuelling 0x05 1 [0]) ∧ fuelling.anyFilling = true ∧
      ready.Offers 0x05 1 [1] (served ready 0x05 1 [1]) ∧ ready.anyFilling = false ∧ ready.sup.resetPending = false ∧
      (ready.modSup fun u => { u with resetPending := true }).sup.resetPending = true ∧
      ready.Offers 0x06 1 [] (served ready 0x06 1 []) ∧ ready.sup.station = .ready ∧
      (let s := (ready.setSwitch .esd (still .opened)).modSup fun u =>
        { u with station := .shutdown, latches := { u.latches with esd := true } }
       s.sup.station = .shutdown ∧ s.clearLatches.sup.latches.get .esd = true ∧
         SiteCfg.enabled s.clearLatches.work.site .esd = true) ∧
      (FaultCause.all.all fun c => !(ready.clearLatches.sup.latches.get c)) = true :=
  ⟨offered _ _ _ _ rfl rfl, by decide +kernel, offered _ _ _ _ rfl rfl, by decide +kernel, by decide +kernel, rfl,
    offered _ _ _ _ rfl rfl, by decide +kernel, by decide +kernel, by decide +kernel⟩

theorem witness_ResetsLeaveWhatTheyKeep :
    (ready.modSup fun u => { u with resetAsked := .answered }).sup.resetAsked = .answered ∧
      ready.sup.resetPending = false ∧ ready.sup.resetAsked ≠ .answered ∧
      (fuelling.modSup fun u => { u with resetPending := true }).sup.resetPending = true ∧
      (fuelling.disp .one).state.filling = true ∧ (authorized.disp .one).state = .authorized ∧
      (let s := (authorized.modSup fun u => { u with resetAsked := .answered, resetPending := true }).endFill .one .reset
       s.resetDue = false ∧ s.log.stores.length = 1 ∧ (s.after .logEntryStoreComplete).resetDue = true) := by
  decide +kernel

theorem test_resets_keep_the_chiller :
    let s := ready.modPrecool fun p => { p with stage1 := true, reserve := 7, lowMark := true, thermal := some 300 }
    let kept := ((s.modSup fun u => { u with resetAsked := .answered }).after .stationReset).precool
    (kept.stage1, kept.reserve, kept.lowMark, kept.thermal) = (true, 7, true, some 300) ∧
      (s.after .powerOn).precool.stage1 = false ∧ (s.after .powerOn).precool.lowMark = true := by decide +kernel

/-- READY with a thermal update waiting. -/
def oneWaiting : State := { ready with pending := [.thermalUpdate] }

theorem witness_EveryStepKeepsTheNoticeQueue :
    oneWaiting.noticesFit ∧ ∃ t, step oneWaiting = .next t :=
  ⟨by unfold State.noticesFit; decide +kernel, _, rfl⟩

theorem witness_EveryStepKeepsTheLogInOrder : authorized.log.ordered ∧ ∃ t, step authorized = .next t := by
  have h : Numbered 2 [entry] := ⟨by decide +kernel, by decide +kernel⟩
  refine ⟨⟨h, h, ?_⟩, _, rfl⟩
  intro c hc
  cases hc

theorem witness_EveryStepKeepsReserveAndSetpoints :
    oneWaiting.reserveFits ∧ oneWaiting.setpointsWithin 87500 ∧ ∃ t, step oneWaiting = .next t := by
  refine ⟨by unfold State.reserveFits; decide +kernel, ⟨?_, ?_, ?_⟩, _, rfl⟩
  · intro d; cases d <;> decide +kernel
  · intro d f r hf; cases d <;> cases hf
  · intro w hw; cases hw

theorem witness_TheSealedRecordsAreKept :
    oneWaiting.calibrationSound ∧ (∃ t, step oneWaiting = .next t) ∧ (∃ t, exec .thermalUpdate ready = .next t) ∧
      Instr.thermalUpdate ≠ .calCloseStoreComplete ∧ Instr.thermalUpdate ≠ .cfgsaveStoreComplete := by
  refine ⟨⟨by decide +kernel, ?_⟩, ⟨_, rfl⟩, ⟨_, rfl⟩, by decide, by decide⟩
  intro r hr
  cases hr

end Sys2Proof.Machine.Tests
end

section
/-!
PROOF. The target pressure and the ramp rate (chapter 8): each figure of the model, worked in naturals, is the figure
that the rule works in signed numbers (R141, R142).
-/

namespace Sys2Proof.Machine

/-! ## Constants of the nozzle types (R138) -/

theorem pNom_cast (z : Nozzle) : (pNom z : Int) = if z = .hp then 70000 else 35000 := by
  cases z <;> rfl

theorem pCeiling_cast (z : Nozzle) : (pCeiling z : Int) = if z = .hp then 87500 else 43750 := by
  cases z <;> rfl

theorem rMin_cast (z : Nozzle) : (rMin z : Int) = if z = .hp then 60 else 30 := by
  cases z <;> rfl

/-! ## The target pressure (R141) -/

/-- At or above absolute zero, the truncation in `absTemp` cuts nothing off. -/
theorem absTemp_cast {t : Int} (h : 0 ≤ 27315 + 10 * t) : (absTemp t : Int) = 27315 + 10 * t :=
  Int.toNat_of_nonneg h

/-- The third figure of R141: the pressure of the SOC limit at the end gas temperature. -/
def socPressure (z : Nozzle) (soc : Nat) (tEnd : Int) : Nat := pNom z * soc * absTemp tEnd / (100 * 28815)

theorem socPressure_cast (z : Nozzle) (soc : Nat) {tEnd : Int} (h : 0 ≤ 27315 + 10 * tEnd) :
    (socPressure z soc tEnd : Int) =
      (if z = .hp then 70000 else 35000) * soc * (27315 + 10 * tEnd) / (100 * 28815) := by
  rw [← pNom_cast, ← absTemp_cast h]
  simp only [socPressure, Int.natCast_ediv, Int.natCast_mul, Nat.cast_ofNat]

theorem targetPressure_none (z : Nozzle) (soc : Nat) (tAmb : Int) (row : RampRow) :
    targetPressure z none soc tAmb row = min (pCeiling z) (socPressure z soc (tAmb + row.rise)) := rfl

theorem targetPressure_some (z : Nozzle) (p soc : Nat) (tAmb : Int) (row : RampRow) :
    targetPressure z (some p) soc tAmb row = min (pCeiling z) (min (socPressure z soc (tAmb + row.rise)) p) := rfl

theorem targetPressure_le_pCeiling (z : Nozzle) (pCls : Option Nat) (soc : Nat) (tAmb : Int) (row : RampRow) :
    targetPressure z pCls soc tAmb row ≤ pCeiling z :=
  Nat.min_le_left _ _

/-- Planning works the figures of every grade of the snapshot, with the SOC limit as resolved (R141, R143). -/
theorem planFigures_target {z : Nozzle} {sn : Snapshot} {g : Grade} {row : RampRow} (p0 mLim : Nat)
    (h : (g, row) ∈ sn.ramp) :
    ∃ x, (g, x) ∈ planFigures z sn p0 mLim ∧ x.target = sn.target z sn.vehicle.soc row :=
  ⟨_, List.mem_map_of_mem h, rfl⟩

/-- A recomputation works the target of the new grade's row with the SOC limit then in force (R146). -/
theorem recompute_target {sn : Snapshot} {g : Grade} {row : RampRow} (r : Ramp) (z : Nozzle) (soc m : Nat)
    (h : (sn.ramp.find? fun x => decide (x.1 = g)) = some (g, row)) :
    (r.recompute z sn g soc m).target = sn.target z soc row := by
  simp only [Ramp.recompute, h]

/-- Settles O35: each figure of `targetPressure` is R141's, and planning and recomputation take the target from it. -/
theorem theTargetIsTheLeastOfThree : Obligations.TheTargetIsTheLeastOfThree := by
  intro z sn row soc hT nominal ceiling third
  have hCeil : (pCeiling z : Int) = ceiling := pCeiling_cast z
  have hThird : (socPressure z soc (sn.tAmb + row.rise) : Int) = third := socPressure_cast z soc hT
  refine ⟨fun hNone => ?absent, fun p hSome => ?present, ?bounded, fun p0 mLim g => planFigures_target p0 mLim,
    fun r g m => recompute_target r z soc m⟩
  case absent => rw [Snapshot.target, hNone, targetPressure_none, Nat.cast_min, hCeil, hThird]
  case present =>
    rw [Snapshot.target, hSome, targetPressure_some, Nat.cast_min, Nat.cast_min, hCeil, hThird, min_comm third]
  case bounded => exact hCeil ▸ Int.ofNat_le.mpr (targetPressure_le_pCeiling ..)

/-! ## The ramp rate (R142) -/

/-- The raw rate: the truncated subtraction of the model is the signed one cut off at 0, as step 2 of R142 takes it. -/
theorem rawRate_cast (row : RampRow) (tRef : Nat) (tAmb : Int) :
    ((row.r0 - row.slope * (tAmb - tRef).toNat / 10 : Nat) : Int) =
      max 0 (row.r0 - row.slope * max 0 (tAmb - tRef) / 10) := by
  have hAbove : ((tAmb - tRef).toNat : Int) = max 0 (tAmb - tRef) := by omega
  rw [← hAbove, ← Int.natCast_mul]
  omega

/-- The tank factor and the two clamps of R142 over the signed raw rate. -/
theorem rampRate_cast (z : Nozzle) (row : RampRow) (tRef factor : Nat) (tAmb : Int) :
    (rampRate z row tRef factor tAmb : Int) =
      min (row.r0 : Int)
        (max (rMin z : Int) (max 0 (row.r0 - row.slope * max 0 (tAmb - tRef) / 10) * factor / 100)) := by
  rw [← rawRate_cast]
  simp only [rampRate, Nat.cast_min, Nat.cast_max, Int.natCast_ediv, Int.natCast_mul, Nat.cast_ofNat]

/-- Between bounds in order, raising to the lower and lowering to the upper is the choice of R142's step 3. -/
theorem min_max_eq_ite {lo hi : Int} (h : lo ≤ hi) (x : Int) :
    min hi (max lo x) = if x < lo then lo else if hi < x then hi else x := by
  split
  · omega
  · split <;> omega

/-- Settles O36: the rate is the clamped figure of R142, and with R_min at most R0 only one clamp can act. -/
theorem theRampRateIsClamped : Obligations.TheRampRateIsClamped := by
  intro z sn row rMin raw rf
  have hRate : (sn.rate z row : Int) = min (row.r0 : Int) (max rMin rf) := by
    rw [Snapshot.rate, rampRate_cast, rMin_cast]
  exact ⟨hRate, fun hMin => hRate.trans (min_max_eq_ite hMin rf)⟩

end Sys2Proof.Machine
end

section
/-!
PROOF. What every command keeps. `State.guarded` names the parts of the state that the invariants speak of; `Steady` says
what a command may do to them, and `steady_exec` that every command but the two stores of the sealed records is steady.
The consequences of an event are steady since they are `Kept` (`Laws/Consequences.lean`); what remains is what each
command does beside them.
-/

namespace Sys2Proof.Machine

/-! ## The guarded parts -/

/-- The parts of the state that the invariants speak of. -/
structure Guarded where
  pending : List Instr
  notices : List Notice
  log : TransLog
  reserve : Nat
  eMax : Nat
  cal : CalRecord
  session : Session
  store : ConfigStore

/-- The guarded parts of a state. -/
def State.guarded (s : State) : Guarded :=
  ⟨s.pending, s.link.notices, s.log, s.precool.reserve, s.work.precool.eMax, s.meter.cal, s.meter.session, s.sup.store⟩

/-- What every command keeps: the queue of commands, the notice queue within 32 (R8), the log ordered and its counter never
lower (R168), the reserve within E_max (R82), and no record being written that disagrees with its check value (R160). -/
structure Guarded.Sound (g h : Guarded) : Prop where
  pending : h.pending = g.pending
  notices : g.notices.length ≤ 32 → h.notices.length ≤ 32
  log : g.log.ordered → h.log.ordered
  counter : g.log.counter ≤ h.log.counter
  reserve : g.reserve ≤ g.eMax → h.reserve ≤ h.eMax
  session : (∀ r, g.session = .storing r → r.agrees = true) → g.cal.agrees = true →
    ∀ r, h.session = .storing r → r.agrees = true

/-- What a command keeps that is not the store of a sealed record (R164, R189). -/
structure Guarded.Steady (g h : Guarded) : Prop extends Guarded.Sound g h where
  cal : h.cal = g.cal
  store : h.store = g.store

/-- `t` keeps what the invariants speak of as it stands in `s`. -/
def Steady (s t : State) : Prop := s.guarded.Steady t.guarded

theorem Steady.refl (s : State) : Steady s s := ⟨⟨rfl, id, id, le_rfl, id, fun h _ => h⟩, rfl, rfl⟩

theorem Steady.trans {s t u : State} (h : Steady s t) (k : Steady t u) : Steady s u where
  pending := k.pending.trans h.pending
  notices x := k.notices (h.notices x)
  log x := k.log (h.log x)
  counter := h.counter.trans k.counter
  reserve x := k.reserve (h.reserve x)
  session x y := k.session (h.session x y) (by rw [h.cal]; exact y)
  cal := k.cal.trans h.cal
  store := k.store.trans h.store

/-- Consequences are steady. -/
theorem Steady.of_kept {s t u : State} (h : Steady s t) (k : Kept t u) : Steady s u := by
  refine h.trans ?_
  obtain ⟨hStill, hNotices, hLog, -⟩ := k
  simp only [State.still, Prod.mk.injEq] at hStill
  obtain ⟨hPending, -, -, ⟨hCal, hSession, -⟩, ⟨hStore, -, hWork, -⟩, ⟨hCounter, -⟩, ⟨hReserve, -⟩⟩ := hStill
  refine ⟨⟨hPending, hNotices, hLog, hCounter.ge, ?_, ?_⟩, hCal, hStore⟩
  · intro hFits
    change u.precool.reserve ≤ u.sup.work.precool.eMax
    rw [hReserve, hWork]
    exact hFits
  · intro hStoring _ r hr
    exact hStoring r (hSession.symm.trans hr)

theorem Kept.steady {s t : State} (k : Kept s t) : Steady s t := (Steady.refl s).of_kept k

/-! ## Updates beside the guarded parts -/

section

variable (s t : State)

@[simp] theorem steady_self : Steady s s ↔ True := iff_true_intro (Steady.refl s)
@[simp] theorem steady_modField (f) : Steady s (t.modField f) ↔ Steady s t := Iff.rfl
@[simp] theorem steady_modBanks (f) : Steady s (t.modBanks f) ↔ Steady s t := Iff.rfl
@[simp] theorem steady_modBank (b f) : Steady s (t.modBank b f) ↔ Steady s t := Iff.rfl
@[simp] theorem steady_modComp (f) : Steady s (t.modComp f) ↔ Steady s t := Iff.rfl
@[simp] theorem steady_modReceiver (d f) : Steady s (t.modReceiver d f) ↔ Steady s t := Iff.rfl
@[simp] theorem steady_modDisp (d f) : Steady s (t.modDisp d f) ↔ Steady s t := Iff.rfl
@[simp] theorem steady_modFill (d f) : Steady s (t.modFill d f) ↔ Steady s t := Iff.rfl
@[simp] theorem steady_modTimers (d f) : Steady s (t.modTimers d f) ↔ Steady s t := Iff.rfl
@[simp] theorem steady_modMeterRec (d f) : Steady s (t.modMeterRec d f) ↔ Steady s t := Iff.rfl
@[simp] theorem steady_setChan (c r) : Steady s (t.setChan c r) ↔ Steady s t := Iff.rfl
@[simp] theorem steady_setSwitch (i r) : Steady s (t.setSwitch i r) ↔ Steady s t := Iff.rfl
@[simp] theorem steady_setValve (i r) : Steady s (t.setValve i r) ↔ Steady s t := Iff.rfl
@[simp] theorem steady_setConv (c p) : Steady s (t.setConv c p) ↔ Steady s t := Iff.rfl
@[simp] theorem steady_command (i l) : Steady s (t.command i l) ↔ Steady s t := Iff.rfl
@[simp] theorem steady_setPcv (d p) : Steady s (t.setPcv d p) ↔ Steady s t := Iff.rfl
@[simp] theorem steady_sendReply (a) : Steady s (t.sendReply a) ↔ Steady s t := Iff.rfl
@[simp] theorem steady_holdRequest (k g y v) : Steady s (t.holdRequest k g y v) ↔ Steady s t := Iff.rfl
@[simp] theorem steady_hunt : Steady s t.hunt ↔ Steady s t := Iff.rfl
@[simp] theorem steady_framingError : Steady s t.framingError ↔ Steady s t := Iff.rfl
@[simp] theorem steady_free (n : Nat) : Steady s { t with freeIx := n } ↔ Steady s t := Iff.rfl

end

variable {s t : State}

/-! ## Updates of the blocks that hold guarded parts -/

theorem steady_modLink (h : Steady s t) (f : Link → Link)
    (hf : (f t.link).notices.length ≤ t.link.notices.length) : Steady s (t.modLink f) :=
  h.trans ⟨⟨rfl, fun x => hf.trans x, id, le_rfl, id, fun x _ => x⟩, rfl, rfl⟩

theorem steady_post (h : Steady s t) (k : NoticeKind) (c : Source) (n : Nat) : Steady s (t.post k c n) :=
  h.of_kept (kept_post (Kept.refl t) k c n)

theorem steady_take (h : Steady s t) (ts : List Task) : Steady s (t.take ts) := h.of_kept (kept_take (Kept.refl t) ts)

theorem steady_endFill (h : Steady s t) (d : Four) (c : Cause) : Steady s (t.endFill d c) := steady_take h _

/-- A reserve that does not rise above E_max. -/
theorem steady_modPrecool (h : Steady s t) (f : Precool → Precool)
    (hf : t.precool.reserve ≤ t.work.precool.eMax → (f t.precool).reserve ≤ t.work.precool.eMax) :
    Steady s (t.modPrecool f) :=
  h.trans ⟨⟨rfl, id, id, le_rfl, hf, fun x _ => x⟩, rfl, rfl⟩

/-- A supervisor whose store and E_max stand. -/
theorem steady_modSup (h : Steady s t) (f : Supervisor → Supervisor)
    (hStore : (f t.sup).store = t.sup.store) (hMax : (f t.sup).work.precool.eMax = t.sup.work.precool.eMax) :
    Steady s (t.modSup f) :=
  h.trans ⟨⟨rfl, id, id, le_rfl, fun x => le_of_le_of_eq x hMax.symm, fun x _ => x⟩, rfl, hStore⟩

/-- A working configuration whose E_max may have been cut, the reserve then being cut to it (R77, R94). -/
theorem steady_cutReserve (h : Steady s t) (f : Supervisor → Supervisor) (g : Precool → Precool)
    (hStore : (f t.sup).store = t.sup.store) (hg : (g t.precool).reserve ≤ (f t.sup).work.precool.eMax) :
    Steady s ((t.modSup f).modPrecool g) :=
  h.trans ⟨⟨rfl, id, id, le_rfl, fun _ => hg, fun x _ => x⟩, rfl, hStore⟩

theorem steady_modLog (h : Steady s t) (f : TransLog → TransLog) (hc : t.log.counter ≤ (f t.log).counter)
    (ho : t.log.ordered → (f t.log).ordered) : Steady s (t.modLog f) :=
  h.trans ⟨⟨rfl, id, ho, hc, id, fun x _ => x⟩, rfl, rfl⟩

/-- A meter whose calibration record stands and that begins to write no record but one that agrees (R160). -/
theorem steady_modMeter (h : Steady s t) (f : Meter → Meter) (hc : (f t.meter).cal = t.meter.cal)
    (hs : ∀ r, (f t.meter).session = .storing r → t.meter.session = .storing r ∨ r.agrees = true) :
    Steady s (t.modMeter f) := by
  refine h.trans ⟨⟨rfl, id, id, le_rfl, id, fun hStoring _ r hr => ?_⟩, hc, rfl⟩
  rcases hs r hr with hOld | hNew
  · exact hStoring r hOld
  · exact hNew

/-! ## Requests -/

theorem steady_superviseFrame (h : Steady s t) : Steady s t.superviseFrame := by
  rcases superviseFrame_cases t with hf | hf <;> rw [hf]
  · exact h
  · exact steady_modLink h _ le_rfl

theorem steady_noteBusy (h : Steady s t) (k g : Byte) : Steady s (t.noteBusy k g) := by
  unfold State.noteBusy
  split
  · exact steady_modLink h _ le_rfl
  · exact steady_modLink h _ le_rfl

theorem steady_takeFrame (h : Steady s t) (k g : Byte) (body : List Byte) : Steady s (t.takeFrame k g body) := by
  have hf := steady_superviseFrame h
  unfold State.takeFrame
  dsimp only
  split
  · exact steady_noteBusy hf k g
  · split <;> simpa using hf

theorem steady_completeFrame (h : Steady s t) (f : Frame) : Steady s (t.completeFrame f) := by
  unfold State.completeFrame
  split
  · exact h
  · split
    · exact h
    · exact steady_takeFrame h _ _ _

theorem steady_serveRequest (owner : Owner) (ho : ∀ u, Steady u (owner u).1) (h : Steady s t) :
    Steady s (t.serveRequest owner) := by
  have hOwner := h.trans (ho t)
  unfold State.serveRequest
  split
  · next u a hu => rw [hu] at hOwner; simpa using hOwner
  · next u hu => rw [hu] at hOwner; exact steady_modLink hOwner _ le_rfl

/-- A request's row is steady where its owner is. -/
theorem steady_takeRequest (k g : Byte) (body : List Byte) (owner : Owner) (ho : ∀ u, Steady u (owner u).1) :
    Steady s (s.takeRequest k g body owner) := by
  unfold State.takeRequest
  have hFrame := steady_takeFrame (Steady.refl s) k g body
  split
  · exact steady_serveRequest owner ho (Steady.refl s)
  · dsimp only
    split
    · exact steady_serveRequest owner ho hFrame
    · exact hFrame

theorem steady_ownerOf (b : Byte) (f : Four → State → State × Answer) (hf : ∀ d u, Steady u (f d u).1) (u : State) :
    Steady u (ownerOf b f u).1 := by
  unfold ownerOf
  split
  · exact hf _ u
  · exact Steady.refl u

theorem steady_broadcastOwner (b : Byte) (f : Four → State → State × Answer) (hf : ∀ d u, Steady u (f d u).1)
    (u : State) : Steady u (broadcastOwner b f u).1 := by
  unfold broadcastOwner
  split
  · simp only [Four.all, List.foldl_cons, List.foldl_nil]
    exact (((hf _ _).trans (hf _ _)).trans (hf _ _)).trans (hf _ _)
  · exact steady_ownerOf b f hf u

end Sys2Proof.Machine
end

section
/-!
PROOF. The stores and closes of the Transaction Log keep the entries in rising order of their numbers (R168), and every
command is steady; from that the invariants of every step (R8, R82, R160, R167, R168).
-/

namespace Sys2Proof.Machine

/-! ## The log (R168) -/

theorem Numbered.mono {m n : Nat} {ring : List LogEntry} (h : Numbered m ring) (hmn : m ≤ n) : Numbered n ring :=
  ⟨h.1, fun e he => (h.2 e he).trans_le hmn⟩

theorem Numbered.sublist {n : Nat} {ring sub : List LogEntry} (h : Numbered n ring) (hs : sub.Sublist ring) :
    Numbered n sub :=
  ⟨h.1.sublist hs, fun e he => h.2 e (hs.subset he)⟩

/-- An entry of the counter's number at the head, the counter increased (R169). -/
theorem Numbered.append {n : Nat} {ring : List LogEntry} (h : Numbered n ring) {e : LogEntry} (he : e.number = n) :
    Numbered (n + 1) (ring ++ [e]) := by
  refine ⟨List.pairwise_append.2 ⟨h.1, List.pairwise_singleton _ _, fun a ha b hb => ?_⟩, fun a ha => ?_⟩
  · obtain rfl := List.mem_singleton.1 hb
    exact he ▸ h.2 a ha
  · rcases List.mem_append.1 ha with ha | ha
    · exact (h.2 a ha).trans (Nat.lt_succ_self n)
    · obtain rfl := List.mem_singleton.1 ha
      exact he ▸ Nat.lt_succ_self _

theorem reclaim_sublist (ring : List LogEntry) : (reclaim ring).Sublist ring := by
  induction ring with
  | nil => exact List.Sublist.refl _
  | cons e rest ih =>
    unfold reclaim
    split
    · exact ih.cons e
    · exact List.Sublist.refl _

/-- An entry replaced by one of its own number. -/
theorem numbered_replace {n : Nat} {ring : List LogEntry} (h : Numbered n ring) (e : LogEntry) :
    Numbered n (changeEntry e.number (fun _ => e) ring) :=
  numbered_changeEntry h _ fun _ hx => hx.symm

theorem numbered_settle {n : Nat} {ring : List LogEntry} (h : Numbered n ring) (k : Nat) :
    Numbered n (changeEntry k (fun e => { e with state := .settled }) ring) :=
  numbered_changeEntry h _ fun _ _ => rfl

theorem numbered_applyStore {n : Nat} {stored : List LogEntry} (h : Numbered n stored) (st : EntryStore) :
    Numbered n (applyStore stored st) := by
  cases st with
  | create => exact h
  | close e => exact numbered_replace h e
  | settle k tail => exact (numbered_settle h k).sublist List.filter_sublist

theorem numbered_applyImage {n : Nat} {stored : List LogEntry} (h : Numbered n stored) (e : LogEntry) :
    Numbered n (applyImage stored e) := by
  refine numbered_map h _ fun o => ?_
  split
  · next ho => exact ho.1.symm
  · rfl

theorem ordered_afterReset {g : TransLog} (h : g.ordered) : g.afterReset.ordered :=
  ⟨h.2.1, h.2.1, fun _ hc => by cases hc⟩

variable {s t : State}

theorem steady_testMarks (h : Steady s t) : Steady s t.testMarks := h.of_kept (kept_testMarks (Kept.refl t))

theorem steady_preStartClose (h : Steady s t) (d : Four) (c : Cause) : Steady s (t.preStartClose d c) :=
  h.of_kept (kept_preStartClose (Kept.refl t) d c)

theorem steady_checkpoint (h : Steady s t) (d : Four) : Steady s (t.checkpoint d) :=
  h.of_kept (kept_checkpoint (Kept.refl t) d)

theorem steady_evalStart (h : Steady s t) : Steady s t.evalStart := h.of_kept (kept_evalStart (Kept.refl t))

theorem steady_compareFeedback (h : Steady s t) : Steady s t.compareFeedback :=
  h.of_kept (kept_compareFeedback (Kept.refl t))

theorem steady_closeAll (h : Steady s t) (vs : List Valve) : Steady s (t.closeAll vs) :=
  h.of_kept ((kept_closeAll t t vs).2 (Kept.refl t))

theorem steady_settleEntry (n : Nat) : Steady s (s.settleEntry n) :=
  steady_testMarks (steady_modLog (Steady.refl s) _ le_rfl fun ⟨hRing, hStored, hCreation⟩ =>
    ⟨(numbered_settle hRing n).sublist (reclaim_sublist _), hStored, hCreation⟩)

/-- The creation that begins takes the counter's number (R169). -/
theorem steady_beginCreation (h : Steady s t) (e : LogEntry) (he : e.number = t.log.counter) :
    Steady s (t.beginCreation e) :=
  steady_modLog h _ le_rfl fun ⟨hRing, hStored, _⟩ =>
    ⟨hRing, hStored, fun c hc => by obtain rfl := Option.some.inj hc; exact ⟨he, he⟩⟩

theorem steady_completeCreation {c : Creation} (hc : s.log.creation = some c) : Steady s (s.completeCreation c) :=
  steady_testMarks (steady_modLog (Steady.refl s) _ (Nat.le_succ _) fun ⟨hRing, hStored, hCreation⟩ =>
    ⟨hRing.append (hCreation c hc).1, hStored.append (hCreation c hc).2, fun _ h => by cases h⟩)

theorem steady_popStore (st : EntryStore) (rest : List EntryStore) :
    Steady s (s.modLog fun g => { g with stores := rest, stored := applyStore g.stored st }) :=
  steady_modLog (Steady.refl s) _ le_rfl fun ⟨hRing, hStored, hCreation⟩ =>
    ⟨hRing, numbered_applyStore hStored st, hCreation⟩

theorem steady_logEntryStoreComplete : ∃ t, exec .logEntryStoreComplete s = .next t ∧ Steady s t := by
  refine ⟨_, rfl, ?_⟩
  split
  · exact Steady.refl s
  · next st rest _ =>
    have hPop := steady_popStore (s := s) st rest
    dsimp only
    split
    · next c hc _ => simpa using hPop.trans (steady_completeCreation (s := s.modLog fun g => { g with stores := rest, stored := applyStore g.stored .create }) hc)
    · exact hPop

theorem steady_recoverNext (h : Steady s t) : Steady s t.recoverNext := by
  unfold State.recoverNext
  split
  · exact steady_modLog h _ le_rfl id
  · simpa [State.beginSweep] using
      steady_modSup (steady_testMarks (steady_modLog h _ le_rfl id)) _ rfl rfl

theorem steady_logRecoveryStoreComplete : ∃ t, exec .logRecoveryStoreComplete s = .next t ∧ Steady s t := by
  refine ⟨_, rfl, ?_⟩
  split
  · exact Steady.refl s
  · next e _ =>
    exact steady_recoverNext (steady_modLog (Steady.refl s) _ le_rfl fun ⟨hRing, hStored, hCreation⟩ =>
      ⟨numbered_replace hRing e, numbered_replace hStored e, hCreation⟩)

theorem steady_checkpointStoreComplete (d : Four) :
    ∃ t, exec (.checkpointStoreComplete d) s = .next t ∧ Steady s t := by
  refine ⟨_, rfl, ?_⟩
  split
  · exact Steady.refl s
  · split
    · exact Steady.refl s
    · exact steady_modLog (Steady.refl s) _ le_rfl fun ⟨hRing, hStored, hCreation⟩ =>
        ⟨hRing, numbered_applyImage hStored _, hCreation⟩

/-! ## Start-up and resets -/

theorem steady_checkCalibration (h : Steady s t) : Steady s t.checkCalibration := by
  unfold State.checkCalibration
  split
  · exact h
  · exact steady_take (steady_modMeter h _ rfl fun _ hr => .inl hr) _

/-- The kept reserve is cut to the E_max that S1 loads (R94, R180). -/
theorem steady_loadConfig (h : Steady s t) : Steady s t.loadConfig :=
  h.trans ⟨⟨rfl, id, id, le_rfl, fun _ => Nat.min_le_right _ _, fun x _ => x⟩, rfl, rfl⟩

theorem steady_beginStartUp (h : Steady s t) : Steady s t.beginStartUp := by
  unfold State.beginStartUp
  have hLoad := steady_loadConfig h
  exact steady_recoverNext
    (steady_modSup (steady_checkCalibration (steady_modSup hLoad _ rfl rfl)) _ rfl rfl)

theorem steady_restartSupervision (h : Steady s t) : Steady s t.restartSupervision := by
  refine steady_modLink h _ (le_of_eq ?_)
  split <;> rfl

/-- The dispensers that are configured to open at start-up opened (R179 step 1). -/
def State.openedAtStart (s : State) : State :=
  Four.all.foldl (fun t d => if (t.dispCfg d).openAtStart then t.modDisp d fun p => { p with state := .idle } else t) s

/-- Stage S6 up to the decision between SHUTDOWN and READY: START_UP_DONE posted, an active ESD or GAS_ALARM latched
(R179 steps 1 to 4). -/
def State.startUpDone (s : State) : State :=
  let t := s.openedAtStart.modSup fun u => { u with station := .startUp .s6 }
  let t := t.post .startUpDone .station
    (detailBytes t.sup.resetKind.code (bitFlags [t.sup.configDefaulted, t.sup.latches.metrology]))
  t.modSup fun u =>
    { u with
      latches :=
        { u.latches with
          esd := u.latches.esd || t.faultPresent .esd, gasAlarm := u.latches.gasAlarm || t.faultPresent .gasAlarm } }

theorem finishStartUp_eq (s : State) :
    s.finishStartUp =
      match s.startUpDone.shutdownCause with
      | some c => (s.startUpDone.take [.shutdown c]).restartSupervision
      | none => ((s.startUpDone.modSup fun u => { u with station := .ready }).restartSupervision).evalStart := rfl

theorem steady_openedAtStart (h : Steady s t) : Steady s t.openedAtStart := by
  refine List.foldlRecOn _ _ h fun u hu d _ => ?_
  split
  · simpa using hu
  · exact hu

theorem steady_startUpDone (h : Steady s t) : Steady s t.startUpDone :=
  steady_modSup (steady_post (steady_modSup (steady_openedAtStart h) _ rfl rfl) _ _ _) _ rfl rfl

theorem steady_finishStartUp (h : Steady s t) : Steady s t.finishStartUp := by
  have hDone := steady_startUpDone h
  rw [finishStartUp_eq]
  split
  · exact steady_restartSupervision (steady_take hDone _)
  · exact steady_evalStart (steady_restartSupervision (steady_modSup hDone _ rfl rfl))

theorem steady_faultValve (h : Steady s t) (v : Valve) (st : ValveState) : Steady s (t.faultValve v st) :=
  steady_take (steady_post (t := t.setValve v _) (by simpa using h) _ _ _) _

theorem steady_readValve (h : Steady s t) (v : Valve) : Steady s (t.readValve v) := by
  unfold State.readValve
  dsimp only
  split
  · simpa using h
  · split
    · exact h
    · exact steady_faultValve h v _
  · exact h

theorem steady_endSweep (h : Steady s t) : Steady s t.endSweep := by
  unfold State.endSweep
  have hRead := List.foldlRecOn allValves _ h fun u hu v _ => steady_readValve hu v
  dsimp only
  split
  · exact steady_finishStartUp (by simpa using hRead)
  · exact steady_evalStart (by simpa using hRead)

theorem steady_handFailed (h : Steady s t) (ch : Channel) : Steady s (t.handFailed ch).1 := by
  cases ch with
  | bank b =>
    simp only [State.handFailed]
    split
    · exact h.of_kept (kept_stall (Kept.refl t) b 2)
    · exact h
  | supply => exact h.of_kept (kept_judgeSupply (Kept.refl t))
  | _ => exact h

theorem steady_settled {p : State × List Task} (h : Steady s p.1) : Steady s (settled p) := steady_take h _

theorem steady_failChannel (h : Steady s t) (ch : Channel) (r : ChanRec) (n : Nat) :
    Steady s (t.failChannel ch r n) :=
  steady_settled (steady_handFailed (steady_post (t := t.setChan ch _) (by simpa using h) _ _ _) ch)

theorem steady_judgeChannel (h : Steady s t) (ch : Channel) (reads : List Nat) :
    Steady s (t.judgeChannel ch reads) := by
  unfold State.judgeChannel
  dsimp only
  split
  · simpa using h
  · split
    · exact steady_settled (steady_handFailed h ch)
    · exact steady_failChannel h ch _ _

theorem steady_beginValvePart (h : Steady s t) : Steady s t.beginValvePart := by
  have hClosed := steady_closeAll h allValves
  unfold State.beginValvePart
  dsimp only
  split
  · exact steady_modSup (t := State.modField _ _) (by simpa using hClosed) _ rfl rfl
  · simpa using hClosed

theorem steady_sweepStep (c : Converter) (i : Nat) : Steady s (s.sweepStep c i) := by
  unfold State.sweepStep
  dsimp only
  split
  · exact Steady.refl s
  · next ch _ =>
    have hJudged := fun n => steady_judgeChannel (s := s) (t := s.setConv c ⟨n, []⟩) (by simp) ch
    split
    · simp
    · split
      · exact steady_beginValvePart (hJudged _ _)
      · exact hJudged _ _

/-- A reset keeps the stores and cuts no reserve that the working values it leaves do not cover (R94, R180). -/
theorem steady_afterReset (k : ResetKind) : Steady s (s.afterReset k) := by
  refine ⟨⟨rfl, fun hNotices => ?_, ordered_afterReset, le_rfl, fun hReserve => ?_, fun _ _ r hr => by cases hr⟩, rfl, rfl⟩
  · cases k with
    | station => exact hNotices
    | _ => exact Nat.zero_le _
  · cases k with
    | station => exact hReserve
    | _ => exact Nat.zero_le _

end Sys2Proof.Machine
end

section
/-!
PROOF. Every command is steady: the owners of the requests first, then the rows that are no requests, and from that the
invariants of every step (O57, O58 in its first part, O59, O3, O56).
-/

namespace Sys2Proof.Machine

variable {s t : State}

/-! ## The owners of the requests -/

theorem steady_readNotice (u : State) : Steady u u.readNotice.1 := by
  unfold State.readNotice
  split
  · exact Steady.refl u
  · next n rest hn => exact steady_modLink (Steady.refl u) _ (by simp [hn])

theorem steady_linkset (u : State) (n : Nat) (a : LinkAction) : Steady u (u.linkset n a) :=
  steady_restartSupervision (steady_modSup (Steady.refl u) _ rfl rfl)

theorem steady_setClock (u : State) (v : Word) : Steady u (u.setClock v) := by
  unfold State.setClock
  simpa using steady_modLink (Steady.refl u) _ le_rfl

theorem steady_takeReset (u : State) (force : Bool) : Steady u (u.takeReset force).1 := by
  unfold State.takeReset State.askReset
  have hAsked : Steady u (u.modSup fun v => { v with resetAsked := .asked, resetPending := force }) :=
    steady_modSup (Steady.refl u) _ rfl rfl
  split
  · exact Steady.refl u
  · dsimp only
    split
    · exact Steady.refl u
    · split
      · exact steady_take hAsked _
      · exact hAsked

theorem steady_resume (u : State) : Steady u u.resume.1 := by
  have hCleared : Steady u u.clearLatches := steady_modSup (Steady.refl u) _ rfl rfl
  unfold State.resume
  dsimp only
  split
  · split
    · exact hCleared
    · exact steady_evalStart ((steady_post (steady_modSup hCleared _ rfl rfl) _ _ _).of_kept
        (kept_compResume (Kept.refl _)))
  · exact hCleared

theorem steady_enableChanged (h : Steady s t) (c : FaultCause) : Steady s (t.enableChanged c) := by
  unfold State.enableChanged
  split
  · exact steady_take h _
  · exact h

theorem steady_actset (u : State) (cause : Byte) (v : Bool) :
    Steady u (match faultCauseOf cause.toNat with
      | some k => (u.setAction k v, okAnswer)
      | none => (u, badValue 1)).1 := by
  split
  · exact steady_enableChanged (steady_modSup (Steady.refl u) _ rfl rfl) _
  · exact Steady.refl u

theorem steady_selftest (u : State) : Steady u u.selftest.1 := by
  unfold State.selftest State.beginSweep
  split
  · exact Steady.refl u
  · split
    · exact Steady.refl u
    · split <;> simp

theorem steady_startLimitChanged (h : Steady s t) : Steady s t.startLimitChanged := by
  unfold State.startLimitChanged
  dsimp only
  split
  · simpa using h
  · split
    · exact steady_evalStart (by simpa using h)
    · simpa using h

theorem steady_writeRank (u : State) (b : Four) (r : Nat) : Steady u (u.writeRank b r).1 := by
  unfold State.writeRank
  split
  · exact Steady.refl u
  · split
    · exact Steady.refl u
    · split
      · exact Steady.refl u
      · split
        · exact Steady.refl u
        · exact steady_modSup (Steady.refl u) _ rfl rfl

/-- An item is written only where the relations of its group then hold (R35, R77). -/
theorem writeItem_inr {α : Type} {i : Option (Item α)} {rel : α → Bool} {a : α} {v : Int} {put : α → WorkConfig}
    {w : WorkConfig} (h : writeItem i rel a v put = .inr w) :
    ∃ x, i = some x ∧ rel (x.write a v) = true ∧ w = put (x.write a v) := by
  unfold writeItem at h
  split at h
  · cases h
  · next x =>
    split at h
    · next hRel => exact ⟨x, rfl, hRel, (Sum.inr.inj h).symm⟩
    · cases h

theorem writeDisp_precool {w w' : WorkConfig} {d : Four} {item : Nat} {v : Word}
    (h : writeDisp w d item v = .inr w') : w'.precool = w.precool := by
  unfold writeDisp at h
  dsimp only at h
  split at h
  · split at h
    · obtain rfl := Sum.inr.inj h; rfl
    · split at h
      · obtain rfl := Sum.inr.inj h; rfl
      · cases h
  · split at h
    · cases h
    · split at h
      · obtain rfl := Sum.inr.inj h; rfl
      · cases h
  · obtain ⟨x, -, -, rfl⟩ := writeItem_inr h; rfl

/-- A write of any group but PRECOOL leaves E_max (R188). -/
theorem writeGroup_precool {w w' : WorkConfig} {g i n : Nat} {v : Word} (h : writeGroup w g i n v = .inr w')
    (hg : g ≠ 4) : w'.precool = w.precool := by
  unfold writeGroup at h
  dsimp only at h
  split at h
  · obtain ⟨x, -, -, rfl⟩ := writeItem_inr h; rfl
  · split at h
    · cases h
    · obtain ⟨x, -, -, rfl⟩ := writeItem_inr h; rfl
  · split at h
    · cases h
    · exact writeDisp_precool h
  · exact absurd rfl hg
  · split at h
    · cases h
    · obtain ⟨x, -, -, rfl⟩ := writeItem_inr h; rfl
  · split at h
    · obtain ⟨x, -, -, rfl⟩ := writeItem_inr h; rfl
    · split at h
      · cases h
      · obtain ⟨x, -, -, rfl⟩ := writeItem_inr h; rfl
  · split at h
    · cases h
    · obtain ⟨x, -, -, rfl⟩ := writeItem_inr h; rfl

theorem writeConfig_group {w w' : WorkConfig} {g i n : Nat} {v : Word} (h : writeConfig w g i n v = .inr w') :
    writeGroup w g i n v = .inr w' := by
  unfold writeConfig at h
  split at h
  · cases h
  · exact h

theorem steady_afterWrite (h : Steady s t) (g n : Nat) : Steady s (t.afterWrite g n) := by
  unfold State.afterWrite
  split
  · split
    · exact steady_restartSupervision h
    · split
      · exact steady_startLimitChanged h
      · cases enableCause n with
        | none => exact h
        | some c => exact steady_enableChanged h c
  · split
    · exact steady_modPrecool h _ fun _ => Nat.min_le_right _ _
    · exact h

/-- A write keeps the reserve within the E_max that it leaves (R77). -/
theorem steady_written (u : State) {g i n : Nat} {v : Word} {w : WorkConfig}
    (h : writeConfig u.work g i n v = .inr w) :
    Steady u ((u.modSup fun x => { x with work := w }).afterWrite g n) := by
  by_cases hg : g = 4
  · subst hg
    exact steady_cutReserve (Steady.refl u) _ _ rfl (Nat.min_le_right _ _)
  · have hPrecool : w.precool = u.work.precool := writeGroup_precool (writeConfig_group h) hg
    exact steady_afterWrite (steady_modSup (Steady.refl u) _ rfl (congrArg PrecoolCfg.eMax hPrecool)) _ _

theorem steady_writeConfigItem (u : State) (g i n : Nat) (v : Word) : Steady u (u.writeConfigItem g i n v).1 := by
  unfold State.writeConfigItem
  split
  · exact Steady.refl u
  · next w hw =>
    split
    · exact Steady.refl u
    · split
      · exact steady_writeRank u _ _
      · exact steady_written u hw

theorem steady_readConfig (u : State) (g i n : Nat) : Steady u (u.readConfig g i n).1 := by
  unfold State.readConfig
  split
  · exact Steady.refl u
  · split
    · exact Steady.refl u
    · simp

theorem steady_authorize (u : State) (d : Four) (a : AuthorizeBody) : Steady u (u.authorize d a).1 := by
  have hChecked := steady_checkCalibration (Steady.refl u)
  unfold State.authorize
  split
  · exact Steady.refl u
  · split
    · exact Steady.refl u
    · split
      · exact Steady.refl u
      · dsimp only
        split
        · exact hChecked
        · split
          · exact hChecked
          · next v c _ =>
            have hCreated : Steady u ((u.checkCalibration.modMeterRec d fun m => { m with sale := some c }).beginCreation
                (newEntry u.checkCalibration d a c)) := steady_beginCreation (by simpa using hChecked) _ rfl
            unfold State.acceptAuthorize
            dsimp only
            split
            · exact steady_preStartClose (by simpa using hCreated) d _
            · simpa using hCreated

theorem steady_cancel (u : State) (d : Four) : Steady u (u.cancel d).1 := by
  unfold State.cancel
  split
  · exact steady_preStartClose (Steady.refl u) d _
  · exact Steady.refl u

theorem steady_clear (u : State) (d : Four) : Steady u (u.clear d).1 := by
  unfold State.clear
  split
  · split <;> simp
  · exact Steady.refl u

theorem steady_restoreBank (u : State) (b : Four) : Steady u (u.restoreBank b) := by
  unfold State.restoreBank
  have hReady : Steady u (u.modBank b fun k => { k with state := .ready, refillFailed := false }).evalStart :=
    steady_evalStart (by simp)
  split
  · dsimp only
    split
    · exact hReady.of_kept (kept_autoDemand (Kept.refl _) b)
    · exact hReady
  · exact Steady.refl u

theorem steady_takeRefill (u : State) (b : Four) (p : Nat) : Steady u (u.takeRefill b p).1 := by
  unfold State.takeRefill State.queueRefill
  split
  · exact Steady.refl u
  · refine steady_evalStart ?_
    simp only [steady_modBank]
    split <;> simp

theorem steady_returnToService (u : State) : Steady u u.returnToService :=
  (kept_returnToService (Kept.refl u)).steady

theorem steady_compressorOn (u : State) : Steady u u.compressorOn.1 := by
  unfold State.compressorOn
  split
  · exact Steady.refl u
  · split
    · exact steady_returnToService u
    · exact steady_returnToService u
    · simp

theorem steady_compressorOff (u : State) : Steady u u.compressorOff := by
  unfold State.compressorOff
  dsimp only
  split
  · exact (kept_disableNow (Kept.refl u) _).steady
  · exact (kept_disableNow (Kept.refl u) _).steady
  · simp
  · simp
  · exact Steady.refl u
  · exact (kept_enterUnloading (s := u) (by simp)).steady

theorem steady_settle (u : State) (n : Nat) : Steady u (u.settle n).1 := by
  unfold State.settle
  split
  · exact Steady.refl u
  · split
    · exact steady_settleEntry n
    · exact Steady.refl u
    · exact Steady.refl u

theorem steady_calOpen (u : State) : Steady u u.calOpen.1 := by
  unfold State.calOpen
  split
  · exact Steady.refl u
  · split
    · exact Steady.refl u
    · split
      · exact Steady.refl u
      · split
        · exact Steady.refl u
        · exact steady_modMeter (Steady.refl u) _ rfl fun r hr => by cases hr

theorem steady_calWrite (u : State) (d : Four) (k : Nat) : Steady u (u.calWrite d k).1 := by
  unfold State.calWrite
  split
  · exact steady_modMeter (Steady.refl u) _ rfl fun r hr => by cases hr
  · exact Steady.refl u

/-- The record that a CAL CLOSE writes agrees with its check value (R160, R164). -/
theorem newCalRecord_agrees (old : CalRecord) (staged : Quad Nat) : (newCalRecord old staged).agrees = true := by
  simp [CalRecord.agrees, newCalRecord]

theorem steady_calClose (u : State) : Steady u u.calClose.1 := by
  unfold State.calClose
  split
  · next staged _ =>
    exact steady_modMeter (Steady.refl u) _ rfl fun r hr =>
      .inr (Session.storing.inj hr ▸ newCalRecord_agrees u.meter.cal staged)
  · exact Steady.refl u

theorem steady_takeStats (u : State) (a b : Nat) : Steady u (u.takeStats a b).1 := by
  unfold State.takeStats
  split
  · exact steady_modLink (Steady.refl u) _ le_rfl
  · simp
  · simp
  · exact Steady.refl u

end Sys2Proof.Machine
end

section
/-!
PROOF. The rows that are no requests are steady, and so every command but the stores of the two sealed records; the
invariants of every step follow (O57, O58 in its first part, O59, O3, O56).
-/

namespace Sys2Proof.Machine

variable {s t : State}

/-! ## The rows that are no requests -/

theorem steady_ite {p : Prop} [Decidable p] {u : State} (h : Steady s t) (k : Steady s u) :
    Steady s (if p then t else u) := by
  split
  · exact h
  · exact k

theorem steady_insideByte (bs : List Byte) : Steady s (s.insideByte bs) := by
  unfold State.insideByte
  dsimp only
  split
  · exact steady_modLink (Steady.refl s) _ le_rfl
  · split
    · simp
    · split
      · exact steady_modLink (Steady.refl s) _ le_rfl
      · exact steady_completeFrame (by simp) _

theorem steady_linkByteReceived (b : Byte) : ∃ t, exec (.linkByteReceived b) s = .next t ∧ Steady s t := by
  refine ⟨_, rfl, ?_⟩
  split
  · split
    · exact steady_modLink (Steady.refl s) _ le_rfl
    · exact Steady.refl s
  · exact steady_insideByte _

theorem steady_replySent : ∃ t, exec .replySent s = .next t ∧ Steady s t := by
  refine ⟨_, rfl, ?_⟩
  split
  · exact Steady.refl s
  · split
    · exact Steady.refl s
    · exact Steady.refl s
    · exact steady_modLink (Steady.refl s) _ le_rfl
    · next r _ =>
      have hAnswered : Steady s (if r.grantsReset ∧ s.sup.resetAsked = .asked then
          s.modSup fun u => { u with resetAsked := .answered } else s) := by
        split
        · exact steady_modSup (Steady.refl s) _ rfl rfl
        · exact Steady.refl s
      dsimp only
      split
      · exact steady_modLink hAnswered _ le_rfl
      · exact steady_modLink hAnswered _ le_rfl

theorem steady_linkTimerExpiry : ∃ t, exec .linkTimerExpiry s = .next t ∧ Steady s t := by
  refine ⟨_, rfl, ?_⟩
  split
  · exact steady_take (steady_post (steady_modLink (Steady.refl s) _ le_rfl) _ _ _) _
  · exact Steady.refl s

theorem steady_goodPrimary (h : Steady s t) (d : Four) : Steady s (t.goodPrimary d) := by
  unfold State.goodPrimary
  split
  · split
    · split
      · simpa using h
      · exact h
    · simpa using h
    · exact h
  · exact h

theorem steady_takePrimary (h : Steady s t) (d : Four) : Steady s (t.takePrimary d) := by
  unfold State.takePrimary
  split
  · split
    · exact steady_endFill h d _
    · exact steady_goodPrimary h d
  · exact h

theorem steady_dualCheck (h : Steady s t) (d : Four) : Steady s (t.dualCheck d) := by
  unfold State.dualCheck
  dsimp only
  split
  · exact steady_ite (steady_endFill (by simpa using h) d _) (by simpa using h)
  · exact h

theorem steady_compressorSample (h : Steady s t) (b : Four) : Steady s (t.compressorSample b) := by
  have hEnd : Steady s (t.endDelivery b) := h.of_kept (kept_endDelivery (Kept.refl t) b)
  unfold State.compressorSample
  split
  · split
    · split
      · exact steady_take (steady_post (by simpa using hEnd) _ _ _) _
      · split
        · refine steady_take ?_ _
          cases (t.endDelivery b).refillEntry b with
          | none => exact hEnd
          | some e => exact hEnd.of_kept (kept_finishEntry (Kept.refl _) e)
        · exact h
    · exact h
  · split
    · exact steady_evalStart h
    · exact h

theorem steady_handSample (h : Steady s t) (c : Channel) : Steady s (t.handSample c) := by
  cases c with
  | primary d => exact steady_dualCheck (steady_takePrimary h d) d
  | secondary d | outlet d =>
    simp only [State.handSample]
    split
    · exact steady_settled (steady_handFailed h _)
    · exact h
  | bank b =>
    refine steady_compressorSample ?_ b
    split
    · split
      · exact h.of_kept (kept_lowTest (Kept.refl t) b _)
      · exact h
    · exact h
  | supply => exact h.of_kept (kept_judgeSupply (Kept.refl t))
  | ambient | precoolOutlet => exact h

theorem steady_analogSample (c : Channel) (i : Nat) : ∃ t, exec (.analogSample c i) s = .next t ∧ Steady s t := by
  refine ⟨_, rfl, ?_⟩
  split
  · exact Steady.refl s
  · exact steady_handSample (by simp) c

theorem steady_enterConnecting (h : Steady s t) (d : Four) : Steady s (t.enterConnecting d) := by
  have hFill := fun (f : Dispenser → Dispenser) (g : MeterRec → MeterRec) =>
    steady_checkpoint (t := (t.modDisp d f).modMeterRec d g) (by simpa using h) d
  unfold State.enterConnecting
  dsimp only
  split
  · exact steady_endFill (hFill _ _) d _
  · exact steady_take (hFill _ _) _

theorem steady_switchEvent (h : Steady s t) (w : Switch) (l : Level) : Steady s (t.switchEvent w l) := by
  unfold State.switchEvent
  split
  · unfold State.nozzleIn
    split
    · simpa using h
    · exact steady_endFill h _ _
  · exact h
  · unfold State.pressStart
    split
    · exact steady_enterConnecting h _
    · exact h
  · exact h
  · exact steady_endFill h _ _
  · exact h
  · exact steady_take h _
  · exact h
  · exact steady_take h _
  · exact h
  · unfold State.sealChange
    dsimp only
    split
    · exact steady_post (steady_modMeter (steady_post h _ _ _) _ rfl fun r hr => by cases hr) _ _ _
    · exact steady_post h _ _ _

theorem steady_debounceExpiry (w : Switch) : ∃ t, exec (.debounceExpiry w) s = .next t ∧ Steady s t := by
  refine ⟨_, rfl, ?_⟩
  dsimp only
  split
  · split
    · exact steady_switchEvent (by simp) w _
    · split
      · exact steady_beginStartUp (by simp)
      · simp
  · exact Steady.refl s

theorem steady_valveFeedbackSettled (v : Valve) :
    ∃ t, exec (.valveFeedbackSettled v) s = .next t ∧ Steady s t := by
  refine ⟨_, rfl, ?_⟩
  dsimp only
  split
  · split
    · simp
    · split
      · simp
      · split
        · simp
        · split
          · simp
          · exact steady_faultValve (by simp) v _
  · exact Steady.refl s

theorem steady_balanceReserve : Steady s s.balanceReserve := by
  have hClamped : Steady s (s.modPrecool fun p =>
      let e := (min (s.precool.balance s.work.precool) s.work.precool.eMax).toNat
      { p with
        reserve := e, charge := 0,
        lowMark := if s.precool.balance s.work.precool ≤ 0 then true else if 0 < e then false else p.lowMark }) :=
    steady_modPrecool (Steady.refl s) _ fun _ => by dsimp only; omega
  unfold State.balanceReserve
  dsimp only
  split
  · exact steady_post hClamped _ _ _
  · exact hClamped

theorem steady_thermalUpdate : ∃ t, exec .thermalUpdate s = .next t ∧ Steady s t :=
  ⟨_, rfl, steady_take (steady_modPrecool steady_balanceReserve _ id) _⟩

theorem steady_handReport (h : Steady s t) (d : Four) (r : Report) : Steady s (t.handReport d r) := by
  unfold State.handReport
  split
  · exact h
  · cases r.firstTests with
    | none => exact h
    | some c => exact steady_endFill h d c
  · unfold State.watchReport
    split
    · exact steady_endFill h d _
    · split
      · exact steady_endFill h d _
      · dsimp only
        split
        · exact steady_take (by simpa using h) _
        · simpa [State.haltTest] using h

theorem steady_vehicleReportFrame (d : Four) (bs : List Byte) :
    ∃ t, exec (.vehicleReportFrame d bs) s = .next t ∧ Steady s t := by
  refine ⟨_, rfl, ?_⟩
  split
  · simp
  · simp
  · exact steady_handReport (by simp) d _

theorem steady_handIncrement (h : Steady s t) (d : Four) (m : Nat) : Steady s (t.handIncrement d m) := by
  have hCharged : Steady s (t.modPrecool fun p => p.chargeMass d m) := by
    refine steady_modPrecool h _ fun hFits => ?_
    unfold Precool.chargeMass
    split <;> exact hFits
  have hMarked := steady_ite (p := ((t.modPrecool fun p => p.chargeMass d m).meterRec d).mass % 50 = 0)
    (steady_checkpoint hCharged d) hCharged
  exact steady_ite (steady_endFill hMarked d _) hMarked

theorem steady_meterPulse (d : Four) : ∃ t, exec (.meterPulse d) s = .next t ∧ Steady s t := by
  refine ⟨_, rfl, ?_⟩
  split
  · unfold State.meteredPulse
    dsimp only
    split
    · split
      · exact steady_handIncrement (by simp) d _
      · simp
    · exact Steady.refl s
  · unfold State.creepPulse
    dsimp only
    split
    · exact steady_post (by simp) _ _ _
    · simp

theorem steady_endPulse (d : Four) : Steady s (s.endPulse d) := by
  unfold State.endPulse
  dsimp only
  split
  · exact steady_take (by simp) _
  · simp

theorem steady_judgeLeak (d : Four) : Steady s (s.judgeLeak d) := by
  unfold State.judgeLeak
  split
  · exact steady_endFill (Steady.refl s) d _
  · dsimp only
    split
    · exact steady_endFill (by simp) d _
    · exact steady_take (by simp) _

theorem steady_timedEnd (d : Four) (b : Bool) (c : Cause) : Steady s (s.timedEnd d b c) := by
  unfold State.timedEnd
  split
  · exact steady_endFill (Steady.refl s) d c
  · exact Steady.refl s

theorem steady_rampStep (d : Four) : ∃ t, exec (.rampStep d) s = .next t ∧ Steady s t := by
  refine ⟨_, rfl, ?_⟩
  split
  · exact steady_take (Steady.of_kept (Steady.refl s) (kept_commandSetpoint (by simp) d)) _
  · exact Steady.refl s

theorem kept_closeFinal (d : Four) (c : Option Cause) (m : FinalFigures) : Kept s (s.closeFinal d c m) := by
  unfold State.closeFinal
  refine kept_closeEntry (Kept.refl s) d _ fun e => ?_
  dsimp only
  split <;> rfl

theorem steady_finishEnding (d : Four) : Steady s (s.finishEnding d) := by
  have hClosed := fun (f : MeterRec → MeterRec) (c : Option Cause) (m : FinalFigures) =>
    (steady_modPrecool (s := s) (t := s.modMeterRec d f) (by simp)
      (fun p => { p with table := p.table.set d none }) id).of_kept (kept_closeFinal d c m)
  unfold State.finishEnding
  simp only [steady_modDisp]
  split
  · exact steady_post (steady_post (hClosed _ _ _) _ _ _) _ _ _
  · exact steady_post (hClosed _ _ _) _ _ _

/-! ## Every command -/

/-- Every command but the stores of the two sealed records is steady. -/
theorem steady_exec (i : Instr) (s : State) (hCal : i ≠ .calCloseStoreComplete) (hCfg : i ≠ .cfgsaveStoreComplete) :
    ∃ t, exec i s = .next t ∧ Steady s t := by
  cases i with
  | frameReceived f => exact ⟨_, rfl, steady_completeFrame (by simp) f⟩
  | linkByteReceived b => exact steady_linkByteReceived b
  | interByteGapTimeout => exact ⟨_, rfl, steady_ite (by simp) (Steady.refl s)⟩
  | replySent => exact steady_replySent
  | linkTimerExpiry => exact steady_linkTimerExpiry
  | clockTick => exact ⟨_, rfl, steady_modLink (Steady.refl s) _ le_rfl⟩
  | status g => exact ⟨_, rfl, steady_takeRequest _ _ _ _ fun u => Steady.refl u⟩
  | notice g => exact ⟨_, rfl, steady_takeRequest _ _ _ _ steady_readNotice⟩
  | time g v => exact ⟨_, rfl, steady_takeRequest _ _ _ _ fun u => steady_setClock u v⟩
  | linkset g a b => exact ⟨_, rfl, steady_takeRequest _ _ _ _ fun u => steady_linkset u _ _⟩
  | reset g a => exact ⟨_, rfl, steady_takeRequest _ _ _ _ fun u => steady_takeReset u _⟩
  | resume g => exact ⟨_, rfl, steady_takeRequest _ _ _ _ steady_resume⟩
  | actset g a b => exact ⟨_, rfl, steady_takeRequest _ _ _ _ fun u => steady_actset u a _⟩
  | selftest g => exact ⟨_, rfl, steady_takeRequest _ _ _ _ steady_selftest⟩
  | cfgwrite g a b c v => exact ⟨_, rfl, steady_takeRequest _ _ _ _ fun u => steady_writeConfigItem u _ _ _ v⟩
  | cfgread g a b c => exact ⟨_, rfl, steady_takeRequest _ _ _ _ fun u => steady_readConfig u _ _ _⟩
  | cfgsave g =>
    exact ⟨_, rfl, steady_takeRequest _ _ _ _ fun u => steady_modSup (Steady.refl u) _ rfl rfl⟩
  | tariffWrite g a v w =>
    exact ⟨_, rfl, steady_takeRequest _ _ _ _ fun u => steady_modSup (Steady.refl u) _ rfl rfl⟩
  | authorize g a =>
    refine ⟨_, rfl, steady_takeRequest _ _ _ _ fun u => ?_⟩
    split
    · exact steady_authorize u _ a
    · exact Steady.refl u
  | cancel g a => exact ⟨_, rfl, steady_takeRequest _ _ _ _ (steady_ownerOf a _ fun d u => steady_cancel u d)⟩
  | stop g a =>
    exact ⟨_, rfl, steady_takeRequest _ _ _ _
      (steady_broadcastOwner a _ fun d u => steady_endFill (Steady.refl u) d _)⟩
  | openDispenser g a =>
    exact ⟨_, rfl, steady_takeRequest _ _ _ _ (steady_broadcastOwner a _ fun d u => by simp)⟩
  | closeDispenser g a =>
    exact ⟨_, rfl, steady_takeRequest _ _ _ _ (steady_broadcastOwner a _ fun d u => by simp)⟩
  | clear g a => exact ⟨_, rfl, steady_takeRequest _ _ _ _ (steady_ownerOf a _ fun d u => steady_clear u d)⟩
  | readdisp g a =>
    refine ⟨_, rfl, steady_takeRequest _ _ _ _ fun u => ?_⟩
    split
    · exact Steady.refl u
    · exact steady_ownerOf a _ (fun d u => Steady.refl u) u
  | refill g a p =>
    exact ⟨_, rfl, steady_takeRequest _ _ _ _ (steady_ownerOf a _ fun b u => steady_takeRefill u b _)⟩
  | isolate g a =>
    exact ⟨_, rfl, steady_takeRequest _ _ _ _ (steady_ownerOf a _ fun b u => steady_take (Steady.refl u) _)⟩
  | restore g a => exact ⟨_, rfl, steady_takeRequest _ _ _ _ (steady_ownerOf a _ fun b u => steady_restoreBank u b)⟩
  | compressorOn g => exact ⟨_, rfl, steady_takeRequest _ _ _ _ steady_compressorOn⟩
  | compressorOff g => exact ⟨_, rfl, steady_takeRequest _ _ _ _ steady_compressorOff⟩
  | readbank g a => exact ⟨_, rfl, steady_takeRequest _ _ _ _ (steady_ownerOf a _ fun b u => Steady.refl u)⟩
  | readprecool g => exact ⟨_, rfl, steady_takeRequest _ _ _ _ fun u => Steady.refl u⟩
  | lognext g => exact ⟨_, rfl, steady_takeRequest _ _ _ _ fun u => Steady.refl u⟩
  | logget g n => exact ⟨_, rfl, steady_takeRequest _ _ _ _ fun u => Steady.refl u⟩
  | settle g n => exact ⟨_, rfl, steady_takeRequest _ _ _ _ fun u => steady_settle u _⟩
  | calOpen g => exact ⟨_, rfl, steady_takeRequest _ _ _ _ steady_calOpen⟩
  | calWrite g a k =>
    exact ⟨_, rfl, steady_takeRequest _ _ _ _ (steady_ownerOf a _ fun d u => steady_calWrite u d _)⟩
  | calClose g => exact ⟨_, rfl, steady_takeRequest _ _ _ _ steady_calClose⟩
  | calRead g => exact ⟨_, rfl, steady_takeRequest _ _ _ _ fun u => Steady.refl u⟩
  | readstats g a b => exact ⟨_, rfl, steady_takeRequest _ _ _ _ fun u => steady_takeStats u _ _⟩
  | cfgsaveStoreComplete => exact absurd rfl hCfg
  | calCloseStoreComplete => exact absurd rfl hCal
  | checkpointStoreComplete d => exact steady_checkpointStoreComplete d
  | logEntryStoreComplete => exact steady_logEntryStoreComplete
  | logRecoveryStoreComplete => exact steady_logRecoveryStoreComplete
  | analogSample c i => exact steady_analogSample c i
  | channelHoldExpiry c => exact ⟨_, rfl, steady_ite (steady_failChannel (Steady.refl s) c _ _) (Steady.refl s)⟩
  | meterPulse d => exact steady_meterPulse d
  | switchLevelChange i l => exact ⟨_, rfl, by cases i <;> simp⟩
  | debounceExpiry w => exact steady_debounceExpiry w
  | valveFeedbackSettled v => exact steady_valveFeedbackSettled v
  | valveTravelExpiry v => exact ⟨_, rfl, steady_ite (steady_faultValve (Steady.refl s) v _) (Steady.refl s)⟩
  | compressorFeedbackSettled =>
    exact ⟨_, rfl, steady_ite (steady_compareFeedback (by simp)) (Steady.refl s)⟩
  | referenceSweepStep c i => exact ⟨_, rfl, steady_ite (steady_sweepStep c i) (Steady.refl s)⟩
  | sweepValveWaitExpiry => exact ⟨_, rfl, steady_ite (steady_endSweep (Steady.refl s)) (Steady.refl s)⟩
  | bankWaitExpiry d =>
    refine ⟨_, rfl, ?_⟩
    split
    · exact steady_take (kept_leaveWaitLists (Kept.refl s) d).steady _
    · exact Steady.refl s
  | drawWindowCheckExpiry b =>
    refine ⟨_, rfl, ?_⟩
    split
    · exact Steady.refl s
    · exact steady_ite (steady_take (by simp) _) (Steady.refl s)
  | deferralTimerExpiry => exact ⟨_, rfl, steady_ite (steady_evalStart (by simp)) (Steady.refl s)⟩
  | spinUpExpiry => exact ⟨_, rfl, steady_ite (steady_take (by simp) _) (Steady.refl s)⟩
  | progressTimerExpiry =>
    refine ⟨_, rfl, ?_⟩
    split
    · exact steady_ite (by simp) (steady_settled (kept_stall (Kept.refl s) _ _).steady)
    · exact Steady.refl s
  | switchTimerExpiry =>
    refine ⟨_, rfl, ?_⟩
    split
    · exact (kept_beginSpell (Kept.refl s) _).steady
    · exact Steady.refl s
  | runDownExpiry => exact ⟨_, rfl, steady_ite (steady_compareFeedback (by simp)) (Steady.refl s)⟩
  | restTimerExpiry => exact ⟨_, rfl, steady_ite (steady_evalStart (by simp)) (Steady.refl s)⟩
  | mismatchTimerExpiry =>
    exact ⟨_, rfl, steady_ite (steady_settled (kept_compFault (Kept.refl s)).steady) (Steady.refl s)⟩
  | thermalUpdate => exact steady_thermalUpdate
  | precoolWaitExpiry d =>
    exact ⟨_, rfl, steady_ite (steady_endFill (kept_leavePrecoolList (Kept.refl s) d).steady d _) (Steady.refl s)⟩
  | vehicleReportFrame d bs => exact steady_vehicleReportFrame d bs
  | freshnessTimerExpiry d =>
    exact ⟨_, rfl, steady_ite (steady_ite (steady_take (by simp) _) (by simp)) (Steady.refl s)⟩
  | authorizationTimerExpiry d | fillTimeExpiry d | overshootTimerExpiry d | haltTimerExpiry d =>
    exact ⟨_, rfl, steady_timedEnd d _ _⟩
  | pulseTimerExpiry d => exact ⟨_, rfl, steady_ite (steady_endPulse d) (Steady.refl s)⟩
  | connectionSettleExpiry d =>
    refine ⟨_, rfl, steady_ite ?_ (Steady.refl s)⟩
    split
    · exact steady_ite (steady_endFill (Steady.refl s) d _) (steady_checkpoint (by simp) d)
    · exact steady_endFill (Steady.refl s) d _
  | leakHoldExpiry d => exact ⟨_, rfl, steady_ite (steady_judgeLeak d) (Steady.refl s)⟩
  | rampStep d => exact steady_rampStep d
  | endingSettleExpiry d => exact ⟨_, rfl, steady_ite (steady_finishEnding d) (Steady.refl s)⟩
  | flowTimerExpiry => exact ⟨_, rfl, steady_modMeter (Steady.refl s) _ rfl fun _ hr => .inl hr⟩
  | powerOn => exact ⟨_, rfl, steady_afterReset _⟩
  | resetLine => exact ⟨_, rfl, steady_afterReset _⟩
  | stationReset => exact ⟨_, rfl, steady_ite (steady_afterReset _) (Steady.refl s)⟩

/-- CAL_CLOSE_STORE_COMPLETE: the record that was being written takes the place of the old one, and nothing else that
the invariants speak of changes (R164). -/
theorem sound_calCloseStoreComplete (s : State) :
    ∃ t, exec .calCloseStoreComplete s = .next t ∧ s.guarded.Sound t.guarded ∧ t.sup.store = s.sup.store ∧
      (s.calibrationSound → t.meter.cal.agrees = true) := by
  refine ⟨_, rfl, ?_⟩
  split
  · next r hr => exact ⟨⟨rfl, id, id, le_rfl, id, fun _ _ r hr => by cases hr⟩, rfl, fun h => h.2 r hr⟩
  · exact ⟨(Steady.refl s).toSound, rfl, fun h => h.1⟩

/-- CFGSAVE_STORE_COMPLETE: the image that was being written takes the place of the old one, and nothing else that the
invariants speak of changes (R189). -/
theorem sound_cfgsaveStoreComplete (s : State) :
    ∃ t, exec .cfgsaveStoreComplete s = .next t ∧ s.guarded.Sound t.guarded ∧ t.meter.cal = s.meter.cal := by
  refine ⟨_, rfl, ?_⟩
  split
  · exact ⟨(Steady.refl s).toSound, rfl⟩
  · exact ⟨⟨rfl, id, id, le_rfl, id, fun x _ => x⟩, rfl⟩

/-- Every command answers a next state, which keeps what the invariants speak of. -/
theorem sound_exec (i : Instr) (s : State) : ∃ t, exec i s = .next t ∧ s.guarded.Sound t.guarded := by
  by_cases hCal : i = .calCloseStoreComplete
  · obtain ⟨t, ht, hSound, -⟩ := sound_calCloseStoreComplete s
    exact ⟨t, hCal ▸ ht, hSound⟩
  · by_cases hCfg : i = .cfgsaveStoreComplete
    · obtain ⟨t, ht, hSound, -⟩ := sound_cfgsaveStoreComplete s
      exact ⟨t, hCfg ▸ ht, hSound⟩
    · obtain ⟨t, ht, hSteady⟩ := steady_exec i s hCal hCfg
      exact ⟨t, ht, hSteady.toSound⟩

theorem sound_of_exec {i : Instr} {s t : State} (h : exec i s = .next t) : s.guarded.Sound t.guarded := by
  obtain ⟨u, hu, hSound⟩ := sound_exec i s
  obtain rfl := Host.Outcome.next.inj (h.symm.trans hu)
  exact hSound

/-- 100 ms change no part that the invariants speak of (Log 2). -/
theorem steady_elapse (s : State) : Steady s s.elapse := ⟨⟨rfl, id, id, le_rfl, id, fun h _ => h⟩, rfl, rfl⟩

/-- An invariant that the passing of 100 ms and every command keep, whatever waits behind the command, is kept by every
step. -/
theorem step_keeps {R : State → State → Prop} (hElapse : ∀ s : State, R s s.elapse)
    (hExec : ∀ i s t rest, exec i { s with pending := rest } = .next t → R s t) {s t : State}
    (h : step s = .next t) : R s t := by
  unfold step at h
  split at h
  · obtain rfl := Host.Outcome.next.inj h
    exact hElapse s
  · next i rest _ => exact hExec i s t rest h

/-! ## The invariants of every step -/

/-- Settles O3: `sound_exec` gives the next state, which keeps the queue. -/
theorem everyCommandKeepsTheQueue : Obligations.EveryCommandKeepsTheQueue := fun i s =>
  let ⟨t, ht, hSound⟩ := sound_exec i s
  ⟨t, ht, hSound.pending⟩

/-- Settles O56: every command and the passing of time are sound. -/
theorem everyStepKeepsTheNoticeQueue : Obligations.EveryStepKeepsTheNoticeQueue := fun _ _ hFits hStep =>
  step_keeps (R := fun s t => s.noticesFit → t.noticesFit) (fun s => (steady_elapse s).notices)
    (fun _ _ _ _ h => (sound_of_exec h).notices) hStep hFits

/-- Settles O57: every command and the passing of time are sound. -/
theorem everyStepKeepsTheLogInOrder : Obligations.EveryStepKeepsTheLogInOrder := fun _ _ hOrdered hStep =>
  step_keeps (R := fun s t => s.log.ordered → t.log.ordered ∧ s.log.counter ≤ t.log.counter)
    (fun s h => ⟨(steady_elapse s).log h, (steady_elapse s).counter⟩)
    (fun _ _ _ _ hExec h => ⟨(sound_of_exec hExec).log h, (sound_of_exec hExec).counter⟩) hStep hOrdered

/-- The reserve's part of O58. -/
theorem step_reserveFits {s t : State} (hFits : s.reserveFits) (hStep : step s = .next t) : t.reserveFits :=
  step_keeps (R := fun s t => s.reserveFits → t.reserveFits) (fun s => (steady_elapse s).reserve)
    (fun _ _ _ _ h => (sound_of_exec h).reserve) hStep hFits

/-- The calibration record changes by its store alone (R164). -/
theorem exec_cal {i : Instr} {s t : State} (h : exec i s = .next t) (hi : i ≠ .calCloseStoreComplete) :
    t.meter.cal = s.meter.cal := by
  by_cases hCfg : i = .cfgsaveStoreComplete
  · obtain ⟨u, hu, -, hCal⟩ := sound_cfgsaveStoreComplete s
    obtain rfl := Host.Outcome.next.inj (h.symm.trans (hCfg ▸ hu))
    exact hCal
  · obtain ⟨u, hu, hSteady⟩ := steady_exec i s hi hCfg
    obtain rfl := Host.Outcome.next.inj (h.symm.trans hu)
    exact hSteady.cal

/-- The configuration store changes by its store alone (R189). -/
theorem exec_store {i : Instr} {s t : State} (h : exec i s = .next t) (hi : i ≠ .cfgsaveStoreComplete) :
    t.sup.store = s.sup.store := by
  by_cases hCal : i = .calCloseStoreComplete
  · obtain ⟨u, hu, -, hStore, -⟩ := sound_calCloseStoreComplete s
    obtain rfl := Host.Outcome.next.inj (h.symm.trans (hCal ▸ hu))
    exact hStore
  · obtain ⟨u, hu, hSteady⟩ := steady_exec i s hCal hi
    obtain rfl := Host.Outcome.next.inj (h.symm.trans hu)
    exact hSteady.store

theorem exec_calibrationSound {i : Instr} {s t : State} (h : exec i s = .next t) (hs : s.calibrationSound) :
    t.calibrationSound := by
  refine ⟨?_, (sound_of_exec h).session hs.2 hs.1⟩
  by_cases hi : i = .calCloseStoreComplete
  · obtain ⟨u, hu, -, -, hAgrees⟩ := sound_calCloseStoreComplete s
    obtain rfl := Host.Outcome.next.inj (h.symm.trans (hi ▸ hu))
    exact hAgrees hs
  · rw [exec_cal h hi]
    exact hs.1

/-- Settles O59: every command but the two stores keeps both records, and the stores put a record in place that agrees. -/
theorem theSealedRecordsAreKept : Obligations.TheSealedRecordsAreKept :=
  ⟨fun _ _ hSound hStep => step_keeps (R := fun s t => s.calibrationSound → t.calibrationSound) (fun _ => id)
    (fun _ _ _ _ hExec h => exec_calibrationSound hExec h) hStep hSound,
    fun _ _ _ => exec_cal, fun _ _ _ => exec_store⟩

end Sys2Proof.Machine
end

section
/-!
PROOF. The frame of the Compressor Scheduler: whatever it does inside a step changes its own record, notices, the CVs and
the state and REFILL_FAILED of the banks, and nothing else (chapter 4).
-/

namespace Sys2Proof.Machine

/-- What a bank record holds that the Compressor Scheduler leaves alone. -/
def BankRec.besideComp (k : BankRec) := (k.low, k.isolatePending, k.waiters, k.window)

/-- The parts of the state that the Compressor Scheduler leaves alone. -/
def State.besideComp (s : State) :=
  ((s.precool, s.receivers, s.disps, s.meter, s.log, s.sup, s.freeIx, s.pending),
    (s.banks.position, s.banks.grant, s.banks.lag, s.banks.wait),
    (s.field.chans, s.field.disagreeCount, s.field.disagree, s.field.switches, s.field.valves.bv, s.field.valves.dv,
      s.field.pcv, s.field.running, s.field.sweep))

/-- `t` follows from `s` by the Compressor Scheduler's own effects. -/
def CompFrame (s t : State) : Prop :=
  t.besideComp = s.besideComp ∧ ∀ b, (t.bank b).besideComp = (s.bank b).besideComp

namespace CompFrame

variable {s t u : State}

theorem refl (s : State) : CompFrame s s := ⟨rfl, fun _ => rfl⟩

theorem trans (h : CompFrame s t) (k : CompFrame t u) : CompFrame s u :=
  ⟨k.1.trans h.1, fun b => (k.2 b).trans (h.2 b)⟩

/-- The state after the scheduler's effects is the state before them in all but the scheduler's own parts. -/
theorem eq (h : CompFrame s t) :
    t = { s with
      comp := t.comp, link := t.link, banks := { s.banks with recs := t.banks.recs },
      field := { s.field with valves := { s.field.valves with cv := t.field.valves.cv } } } := by
  have hBeside := h.1
  rcases s with ⟨_, ⟨_, _, _, _, ⟨_, _, _⟩, _, _, _⟩, ⟨_, _, _, _, _⟩, _, _, _, _, _, _, _, _, _⟩
  rcases t with ⟨_, ⟨_, _, _, _, ⟨_, _, _⟩, _, _, _⟩, ⟨_, _, _, _, _⟩, _, _, _, _, _, _, _, _, _⟩
  simp only [State.besideComp, Prod.mk.injEq] at hBeside
  simp only [hBeside]

theorem disps (h : CompFrame s t) : t.disps = s.disps := congrArg (·.1.2.2.1) h.1
theorem precool (h : CompFrame s t) : t.precool = s.precool := congrArg (·.1.1) h.1
theorem sup (h : CompFrame s t) : t.sup = s.sup := congrArg (·.1.2.2.2.2.2.1) h.1
theorem log (h : CompFrame s t) : t.log = s.log := congrArg (·.1.2.2.2.2.1) h.1
theorem meter (h : CompFrame s t) : t.meter = s.meter := congrArg (·.1.2.2.2.1) h.1
theorem receivers (h : CompFrame s t) : t.receivers = s.receivers := congrArg (·.1.2.1) h.1
theorem grant (h : CompFrame s t) : t.banks.grant = s.banks.grant := congrArg (·.2.1.2.1) h.1
theorem chans (h : CompFrame s t) : t.field.chans = s.field.chans := congrArg (·.2.2.1) h.1
theorem pcv (h : CompFrame s t) : t.field.pcv = s.field.pcv := congrArg (·.2.2.2.2.2.2.2.2.1) h.1

theorem waiters (h : CompFrame s t) (b : Four) : (t.bank b).waiters = (s.bank b).waiters :=
  congrArg (·.2.2.1) (h.2 b)

theorem valve_bv (h : CompFrame s t) (b d : Four) : t.valve (.bv b d) = s.valve (.bv b d) :=
  congrArg (fun x => (x.get b).get d) (congrArg (·.2.2.2.2.2.2.1) h.1)

theorem valve_dv (h : CompFrame s t) (d : Four) : t.valve (.dv d) = s.valve (.dv d) :=
  congrArg (fun x => x.get d) (congrArg (·.2.2.2.2.2.2.2.1) h.1)

end CompFrame

section

variable (s t : State)

@[simp] theorem compFrame_self : CompFrame s s ↔ True := iff_true_intro (CompFrame.refl s)
@[simp] theorem compFrame_modComp (f) : CompFrame s (t.modComp f) ↔ CompFrame s t := Iff.rfl
@[simp] theorem compFrame_post (k c n) : CompFrame s (t.post k c n) ↔ CompFrame s t := Iff.rfl
@[simp] theorem compFrame_command_cv (b l) : CompFrame s (t.command (.cv b) l) ↔ CompFrame s t := Iff.rfl

variable {s t}

theorem compFrame_closeCvs (h : CompFrame s t) (bs : List Four) : CompFrame s (t.closeAll (bs.map .cv)) := by
  unfold State.closeAll
  induction bs generalizing t with
  | nil => exact h
  | cons b bs ih => exact ih (t := t.command (.cv b) .closed) h

theorem compFrame_modBank (h : CompFrame s t) (b : Four) (f : BankRec → BankRec)
    (hf : ∀ k, (f k).besideComp = k.besideComp) : CompFrame s (t.modBank b f) := by
  refine ⟨h.1, fun c => ?_⟩
  rw [bank_modBank]
  split
  · rw [hf]; exact h.2 c
  · exact h.2 c

theorem compFrame_finishEntry (h : CompFrame s t) (e : RefillEntry) : CompFrame s (t.finishEntry e) := h

theorem compFrame_examine (h : CompFrame s t) : CompFrame s t.examine := by
  refine List.foldlRecOn _ _ h fun u hu e _ => ?_
  split
  · exact compFrame_finishEntry hu e
  · exact hu

theorem compFrame_evalStart (h : CompFrame s t) : CompFrame s t.evalStart := by
  have hExamined := compFrame_examine h
  unfold State.evalStart
  dsimp only
  split
  · exact h
  · split
    · split
      · exact hExamined
      · exact hExamined
    · exact hExamined

theorem compFrame_closeSpell (h : CompFrame s t) (b : Four) : CompFrame s (t.closeSpell b) := by
  unfold State.closeSpell
  split
  · exact h
  · exact h

theorem compFrame_endDelivery (h : CompFrame s t) (b : Four) : CompFrame s (t.endDelivery b) := by
  unfold State.endDelivery State.deliveryEnded
  rw [compFrame_modComp]
  refine compFrame_modBank (compFrame_closeSpell (t := t.command (.cv b) .closed) h b) b _ fun k => ?_
  split <;> rfl

theorem compFrame_giveBack (h : CompFrame s t) : CompFrame s t.giveBack := by
  unfold State.giveBack
  split
  · exact h
  · exact compFrame_endDelivery h _

theorem compFrame_enterUnloading (h : CompFrame s t) : CompFrame s t.enterUnloading :=
  compFrame_closeCvs (compFrame_giveBack h) Four.all

theorem compFrame_unload (h : CompFrame s t) : CompFrame s t.unload := by
  unfold State.unload
  split
  · exact compFrame_enterUnloading h
  · exact h

theorem compFrame_stall (h : CompFrame s t) (b : Four) (n : Nat) : CompFrame s (t.stall b n).1 :=
  compFrame_modBank (t := (t.endDelivery b).modComp (·.dropEntry b)) (compFrame_endDelivery h b) b _ fun _ => rfl

theorem compFrame_loseBank (h : CompFrame s t) (b : Four) : CompFrame s (t.loseBank b).1 := by
  unfold State.loseBank
  split
  · exact compFrame_endDelivery h b
  · exact h

theorem compFrame_choose (h : CompFrame s t) (a : ChoiceAt) (l : List Four) : CompFrame s (t.choose a l).1 := by
  have hExamined := compFrame_examine h
  unfold State.choose
  split
  · dsimp only
    split
    · exact compFrame_enterUnloading hExamined
    · split
      · exact hExamined
      · split
        · exact hExamined
        · cases a <;> exact compFrame_modBank hExamined _ _ fun _ => rfl
  · exact h

theorem compFrame_autoDemand (h : CompFrame s t) (b : Four) : CompFrame s (t.autoDemand b) := by
  refine compFrame_evalStart ?_
  split
  · exact h
  · exact h

theorem compFrame_judgeSupply (h : CompFrame s t) : CompFrame s t.judgeSupply := by
  have hLow : CompFrame s (t.modComp fun c => { c with supplyLow := true }).unload :=
    compFrame_unload (t := t.modComp fun c => { c with supplyLow := true }) h
  unfold State.judgeSupply
  split
  · split
    · split
      · exact compFrame_evalStart (t := t.modComp fun c => { c with supplyLow := false }) h
      · exact h
    · split
      · split
        · exact h
        · exact hLow
      · exact h
  · split
    · exact h
    · exact hLow

theorem compFrame_compShutdown (h : CompFrame s t) : CompFrame s t.compShutdown := by
  unfold State.compShutdown
  dsimp only
  split
  · exact h
  · exact h
  · exact h
  · exact h
  · exact h
  · exact compFrame_enterUnloading (t := State.modComp t _) h

theorem compFrame_returnToService (h : CompFrame s t) : CompFrame s t.returnToService :=
  compFrame_evalStart (t := State.compareFeedback _) h

theorem compFrame_compResume (h : CompFrame s t) : CompFrame s t.compResume := by
  unfold State.compResume
  split
  · split
    · exact compFrame_returnToService h
    · exact h
  · exact h
  · exact h

theorem compFrame_compFault (h : CompFrame s t) : CompFrame s t.compFault.1 :=
  compFrame_closeCvs (compFrame_giveBack h) Four.all

end

end Sys2Proof.Machine
end

section
/-!
PROOF. Every consequence of an event keeps the setpoints and the targets within the highest ceiling, 87,500 kPa (R31,
R138, R141, R145). A consequence may carry figures with it; `Task.figuresWithin` says that those are within too.
-/

namespace Sys2Proof.Machine

/-! ## Targets -/

theorem pCeiling_le (z : Nozzle) : pCeiling z ≤ 87500 := by cases z <;> decide

theorem target_le (sn : Snapshot) (z : Nozzle) (soc : Nat) (row : RampRow) : sn.target z soc row ≤ 87500 :=
  (targetPressure_le_pCeiling ..).trans (pCeiling_le z)

theorem setpoint_le (r : Ramp) : r.setpoint ≤ r.target := Nat.min_le_right _ _

theorem planFigures_le {z : Nozzle} {sn : Snapshot} {p0 mLim : Nat} {x : Grade × Figures}
    (h : x ∈ planFigures z sn p0 mLim) : x.2.target ≤ 87500 := by
  obtain ⟨y, -, rfl⟩ := List.mem_map.1 h
  exact target_le ..

/-- The ramp of a fill aims within the highest ceiling. -/
def Fill.aimsWithin (f : Fill) : Prop := ∀ r, f.ramp = some r → r.target ≤ 87500

/-- The ramp of a dispenser's fill does. -/
def Dispenser.aimsWithin (p : Dispenser) : Prop := ∀ f, p.fill = some f → f.aimsWithin

/-- Every figure of an admission request does. -/
def AdmissionRequest.within (q : AdmissionRequest) : Prop := ∀ x ∈ q.figures, x.2.target ≤ 87500

/-- The figures that a consequence carries do. -/
def Task.figuresWithin : Task → Prop
  | .enterFuelling _ _ f => f.target ≤ 87500
  | _ => True

/-- A state within the highest ceiling. -/
def State.within (s : State) : Prop :=
  (∀ d, s.field.pcv.get d ≤ 87500) ∧ (∀ d, (s.disp d).aimsWithin) ∧ ∀ w ∈ s.precool.waitList, w.request.within

theorem within_iff (s : State) : s.within ↔ s.setpointsWithin 87500 :=
  ⟨fun ⟨hPcv, hDisps, hList⟩ => ⟨hPcv, fun d f r hf => hDisps d f hf r, hList⟩,
    fun ⟨hPcv, hDisps, hList⟩ => ⟨hPcv, fun d f hf r => hDisps d f r hf, hList⟩⟩

theorem recompute_aimsWithin {f : Fill} (h : f.aimsWithin) (g : Grade) (soc m : Nat) : (f.recompute g soc m).aimsWithin := by
  unfold Fill.recompute
  split
  · next sn r _ hr =>
    intro r' hr'
    obtain rfl := Option.some.inj hr'
    unfold Ramp.recompute
    split
    · exact h r hr
    · exact target_le ..
  · exact h

/-! ## Updates -/

section

variable (t : State)

@[simp] theorem within_modLink (f) : (t.modLink f).within ↔ t.within := Iff.rfl
@[simp] theorem within_modBanks (f) : (t.modBanks f).within ↔ t.within := Iff.rfl
@[simp] theorem within_modBank (b f) : (t.modBank b f).within ↔ t.within := Iff.rfl
@[simp] theorem within_modComp (f) : (t.modComp f).within ↔ t.within := Iff.rfl
@[simp] theorem within_modReceiver (d f) : (t.modReceiver d f).within ↔ t.within := Iff.rfl
@[simp] theorem within_modMeter (f) : (t.modMeter f).within ↔ t.within := Iff.rfl
@[simp] theorem within_modMeterRec (d f) : (t.modMeterRec d f).within ↔ t.within := Iff.rfl
@[simp] theorem within_modLog (f) : (t.modLog f).within ↔ t.within := Iff.rfl
@[simp] theorem within_modSup (f) : (t.modSup f).within ↔ t.within := Iff.rfl
@[simp] theorem within_post (k c n) : (t.post k c n).within ↔ t.within := Iff.rfl
@[simp] theorem within_setChan (c r) : (t.setChan c r).within ↔ t.within := Iff.rfl
@[simp] theorem within_setSwitch (i r) : (t.setSwitch i r).within ↔ t.within := Iff.rfl
@[simp] theorem within_setValve (i r) : (t.setValve i r).within ↔ t.within := Iff.rfl
@[simp] theorem within_setConv (c p) : (t.setConv c p).within ↔ t.within := Iff.rfl
@[simp] theorem within_command (i l) : (t.command i l).within ↔ t.within := Iff.rfl
@[simp] theorem within_sendReply (a) : (t.sendReply a).within ↔ t.within := Iff.rfl
@[simp] theorem within_holdRequest (k g y v) : (t.holdRequest k g y v).within ↔ t.within := Iff.rfl
@[simp] theorem within_hunt : t.hunt.within ↔ t.within := Iff.rfl
@[simp] theorem within_framingError : t.framingError.within ↔ t.within := Iff.rfl
@[simp] theorem within_leaveWaitLists (d) : (t.leaveWaitLists d).within ↔ t.within := Iff.rfl
@[simp] theorem within_free (n : Nat) : State.within { t with freeIx := n } ↔ t.within := Iff.rfl

end

variable {t : State}

theorem within_closeAll (h : t.within) (vs : List Valve) : (t.closeAll vs).within := by
  rw [closeAll_eq]; exact h

/-- The Compressor Scheduler's effects leave every setpoint and target. -/
theorem within_of_compFrame {u : State} (h : t.within) (k : CompFrame t u) : u.within := by
  rw [k.eq]; exact h

theorem within_evalStart (h : t.within) : t.evalStart.within :=
  within_of_compFrame h (compFrame_evalStart (CompFrame.refl t))

theorem within_setPcv (h : t.within) (d : Four) {p : Nat} (hp : p ≤ 87500) : (t.setPcv d p).within := by
  refine ⟨fun e => ?_, h.2⟩
  have hGet : (t.setPcv d p).field.pcv.get e = if e = d then p else t.field.pcv.get e := by simp
  rw [hGet]
  split
  · exact hp
  · exact h.1 e

theorem within_modDisp (h : t.within) (d : Four) (f : Dispenser → Dispenser)
    (hf : (t.disp d).aimsWithin → (f (t.disp d)).aimsWithin) : (t.modDisp d f).within := by
  refine ⟨h.1, fun e => ?_, h.2.2⟩
  rw [disp_modDisp]
  split
  · next he => exact he ▸ hf (h.2.1 d)
  · exact h.2.1 e

/-- A dispenser changed beside its fill. -/
theorem within_modDisp_fill (h : t.within) (d : Four) (f : Dispenser → Dispenser) (hf : ∀ p, (f p).fill = p.fill) :
    (t.modDisp d f).within :=
  within_modDisp h d f fun hAims x hx => hAims x ((hf _).symm.trans hx)

theorem aimsWithin_map {p : Dispenser} (h : p.aimsWithin) (f : Fill → Fill) (hf : ∀ x : Fill, x.aimsWithin → (f x).aimsWithin)
    {q : Dispenser} (hq : q.fill = p.fill.map f) : q.aimsWithin := by
  intro y hy
  obtain ⟨x, hx, rfl⟩ := Option.map_eq_some_iff.1 (hq.symm.trans hy)
  exact hf x (h x hx)

/-- A dispenser whose fill is changed by what leaves its ramp within. -/
theorem within_mapFill (h : t.within) (d : Four) (f : Dispenser → Dispenser) (g : Fill → Fill)
    (hf : ∀ p, (f p).fill = p.fill.map g) (hg : ∀ x : Fill, x.aimsWithin → (g x).aimsWithin) : (t.modDisp d f).within :=
  within_modDisp h d f fun hAims => aimsWithin_map hAims g hg (hf _)

theorem within_modFill (h : t.within) (d : Four) (g : Fill → Fill) (hg : ∀ x : Fill, x.aimsWithin → (g x).aimsWithin) :
    (t.modFill d g).within := within_mapFill h d _ g (fun _ => rfl) hg

theorem within_modTimers (h : t.within) (d : Four) (f : DispTimers → DispTimers) : (t.modTimers d f).within :=
  within_modDisp_fill h d _ fun _ => rfl

theorem within_modPrecool (h : t.within) (f : Precool → Precool)
    (hf : ∀ w ∈ (f t.precool).waitList, w.request.within) : (t.modPrecool f).within := ⟨h.1, h.2.1, hf⟩

/-- The Precool Unit changed beside its wait list. -/
theorem within_modPrecool_list (h : t.within) (f : Precool → Precool)
    (hf : (f t.precool).waitList = t.precool.waitList) : (t.modPrecool f).within :=
  within_modPrecool h f (hf ▸ h.2.2)

theorem within_leavePrecoolList (h : t.within) (d : Four) : (t.leavePrecoolList d).within :=
  within_modPrecool h _ fun w hw => h.2.2 w (List.mem_of_mem_filter hw)

theorem within_ite {p : Prop} [Decidable p] {u : State} (h : t.within) (k : u.within) : (if p then t else u).within := by
  split
  · exact h
  · exact k

theorem within_checkpoint (h : t.within) (d : Four) : (t.checkpoint d).within := by
  unfold State.checkpoint
  split
  · exact h
  · exact h

theorem within_closeEntry (h : t.within) (d : Four) (f : LogEntry → LogEntry) : (t.closeEntry d f).within := by
  unfold State.closeEntry
  split
  · exact h
  · exact h

theorem within_testMarks (h : t.within) : t.testMarks.within := by
  unfold State.testMarks
  dsimp only
  rw [within_modLog]
  split <;> split <;> exact h

/-- The setpoint of a ramp within is within. -/
theorem within_commandSetpoint (h : t.within) (d : Four) : (t.commandSetpoint d).within := by
  unfold State.commandSetpoint
  split
  · next r hr =>
    obtain ⟨f, hf, hRamp⟩ := Option.bind_eq_some_iff.1 hr
    exact within_setPcv h d ((setpoint_le r).trans (h.2.1 d f hf r hRamp))
  · exact h

/-! ## Consequences -/

/-- A result within, with consequences that carry figures within. -/
def WithinResult (p : State × List Task) : Prop := p.1.within ∧ ∀ k ∈ p.2, k.figuresWithin

theorem withinResult_nil (h : t.within) : WithinResult (t, []) := ⟨h, fun _ hk => by cases hk⟩

/-- Consequences that are no entry to FUELLING carry no figures. -/
theorem withinResult_of (h : t.within) (ks : List Task) (hk : ∀ k ∈ ks, k.figuresWithin) : WithinResult (t, ks) := ⟨h, hk⟩

theorem withinResult_walk (h : t.within) (d : Four) (x : Option Four) : WithinResult (t.walk d x) := by
  unfold State.walk
  dsimp only
  split
  · split
    · exact withinResult_of h _ (by simp [Task.figuresWithin])
    · split
      · refine withinResult_nil ?_
        unfold State.joinWaitList
        exact within_modDisp_fill (by simpa using h) d _ fun _ => rfl
      · exact withinResult_of h _ (by simp [Task.figuresWithin])
  · exact withinResult_nil h

theorem within_recordGrant (h : t.within) (d b : Four) : (t.recordGrant d b).within := by
  unfold State.recordGrant
  dsimp only
  split
  · exact within_modFill (by simpa using h) d _ fun x hx => hx
  · simpa using h

theorem withinResult_grant (h : t.within) (d b : Four) : WithinResult (t.grant d b) := by
  have hGranted := within_evalStart (within_recordGrant h d b)
  unfold State.grant
  dsimp only
  split
  · exact withinResult_of hGranted _ (by simp [Task.figuresWithin])
  · exact withinResult_of hGranted _ (by simp [Task.figuresWithin])
  · exact withinResult_of hGranted _ (by simp [Task.figuresWithin])
  · refine withinResult_of hGranted _ ?_
    split <;> simp [Task.figuresWithin]

theorem mismatchTasks_figures (w : Window) (n : Nat) : ∀ k ∈ mismatchTasks w n, k.figuresWithin := by
  unfold mismatchTasks
  split <;> simp [Task.figuresWithin]

theorem withinResult_release (h : t.within) (b d : Four) : WithinResult (t.release b d) := by
  unfold State.release
  split
  · dsimp only
    split
    · exact withinResult_of (by simpa using h) _ (by simp [Task.figuresWithin])
    · refine ⟨within_modFill (by simpa using h) d _ fun x hx => hx, fun k hk => ?_⟩
      rcases List.mem_append.1 hk with hk | hk
      · exact mismatchTasks_figures _ _ k hk
      · obtain rfl := List.mem_singleton.1 hk
        trivial
  · exact withinResult_nil h

theorem withinResult_freeBank (h : t.within) (b : Four) : WithinResult (t.freeBank b) := by
  unfold State.freeBank
  split
  · exact withinResult_of (within_evalStart (by simpa using h)) _ (by simp [Task.figuresWithin])
  · exact withinResult_of (by simpa using h) _ (by simp [Task.figuresWithin])

theorem withinResult_serveWaiters (h : t.within) (b : Four) : WithinResult (t.serveWaiters b) := by
  unfold State.serveWaiters
  split
  · split
    · exact withinResult_nil (within_evalStart h)
    · dsimp only
      split <;> exact withinResult_of (by simpa using h) _ (by simp [Task.figuresWithin])
  · exact withinResult_nil h

theorem withinResult_rewalkWaiters (h : t.within) (b : Four) : WithinResult (t.rewalkWaiters b) := by
  unfold State.rewalkWaiters
  split
  · exact withinResult_nil h
  · exact withinResult_of (by simpa using h) _ (by simp [Task.figuresWithin])

theorem withinResult_isolateBank (h : t.within) (b : Four) : WithinResult (t.isolateBank b) := by
  unfold State.isolateBank
  split
  · exact withinResult_of (within_evalStart (by simpa using h)) _ (by simp [Task.figuresWithin])
  · exact withinResult_of (by simpa using h) _ (by simp [Task.figuresWithin])
  · split
    · exact withinResult_nil h
    · exact withinResult_of (by simpa using h) _ (by simp [Task.figuresWithin])
  · exact withinResult_nil h

theorem withinResult_switchDemand (h : t.within) (d : Four) : WithinResult (t.switchDemand d) := by
  unfold State.switchDemand
  split
  · exact withinResult_of h _ (by simp [Task.figuresWithin])
  · exact withinResult_nil h

theorem withinResult_switchTests (h : t.within) (d : Four) : WithinResult (t.switchTests d) := by
  unfold State.switchTests
  split
  · split
    · dsimp only
      split
      · exact withinResult_of (by simpa using h) _ (by simp [Task.figuresWithin])
      · exact withinResult_nil (by simpa using h)
    · exact withinResult_nil h
  · exact withinResult_nil h

theorem within_preStartClose (h : t.within) (d : Four) (c : Cause) : (t.preStartClose d c).within := by
  unfold State.preStartClose State.closePreStart
  rw [within_modMeterRec]
  exact within_modDisp_fill (within_closeEntry (within_modTimers h d _) d _) d _ fun _ => rfl

theorem withinResult_enterEnding (h : t.within) (d : Four) (c : Cause) : WithinResult (t.enterEnding d c) := by
  have hEntered := fun f hf => within_setPcv (within_closeAll
    (within_leavePrecoolList ((within_leaveWaitLists _ d).2 (within_mapFill h d f
      (fun x => { x with cause := some c }) hf fun x hx => hx)) d) (pathValves d)) d (Nat.zero_le 87500)
  unfold State.enterEnding
  dsimp only
  split
  · exact withinResult_of (hEntered _ fun _ => rfl) _ (by simp [Task.figuresWithin])
  · exact withinResult_of (hEntered _ fun _ => rfl) _ (by simp [Task.figuresWithin])

theorem withinResult_endCause (h : t.within) (d : Four) (c : Cause) : WithinResult (t.endCause d c) := by
  unfold State.endCause
  dsimp only
  split
  · exact withinResult_enterEnding h d c
  · split
    · exact withinResult_nil (within_preStartClose h d c)
    · exact withinResult_nil h

theorem within_endingRest (h : t.within) (d : Four) : (t.endingRest d).within :=
  within_checkpoint ((within_modBanks _ _).2 (within_modTimers
    (within_modPrecool_list ((within_modReceiver t d _).2 h) _ rfl) d _)) d

theorem withinResult_mismatch (h : t.within) (d : Four) : WithinResult (t.mismatch d) :=
  withinResult_of (within_checkpoint ((within_modLog t _).2 h) d) _ (by simp [Task.figuresWithin])

theorem withinResult_beginPulse (h : t.within) (d b : Four) : WithinResult (t.beginPulse d b) := by
  refine ⟨within_modDisp_fill ?_ d _ fun _ => rfl, ?_⟩
  · simpa using within_setPcv h d ((Nat.min_le_left _ _).trans (pCeiling_le _))
  · unfold State.beginPulse
    dsimp only
    split <;> simp [Task.figuresWithin]

theorem withinResult_beginDraw (h : t.within) (d b : Four) (old : Option Four) : WithinResult (t.beginDraw d b old) := by
  have hClosed : (old.elim t fun b0 => t.command (.bv b0 d) .closed).within := by
    cases old <;> exact h
  have hOpened := fun f hf => within_mapFill ((within_command _ (.dv d) .opened).2
    ((within_command _ (.bv b d) .opened).2 hClosed)) d f (fun x => { x with currentBank := some b }) hf fun x hx => hx
  unfold State.beginDraw
  dsimp only
  refine ⟨within_ite (within_checkpoint (hOpened _ fun _ => rfl) d) (hOpened _ fun _ => rfl), ?_⟩
  split <;> simp [Task.figuresWithin]

theorem withinResult_takeGrant (h : t.within) (d b : Four) (old : Option Four) : WithinResult (t.takeGrant d b old) := by
  unfold State.takeGrant
  split
  · split
    · exact withinResult_beginPulse h d b
    · exact withinResult_beginDraw h d b old
    · exact withinResult_nil h
  · exact withinResult_nil h

theorem within_reserve (h : t.within) (q : AdmissionRequest) (g : Grade) (f : Figures) : (t.reserve q g f).within :=
  within_modPrecool_list h _ rfl

theorem admissionTest_mem {q : AdmissionRequest} {g : Grade} {f : Figures} (h : t.admissionTest q = some (g, f)) :
    (g, f) ∈ q.figures := List.mem_of_find?_eq_some h

theorem within_joinPrecoolList (h : t.within) {q : AdmissionRequest} (hq : q.within) : (t.joinPrecoolList q).within := by
  have hJoined : (t.modPrecool fun p =>
      { p with waitList := p.waitList ++ [PrecoolPlace.mk q (seconds t.work.precool.waitLimit)] }).within := by
    refine within_modPrecool h _ fun w hw => ?_
    rcases List.mem_append.1 hw with hw | hw
    · exact h.2.2 w hw
    · obtain rfl := List.mem_singleton.1 hw
      exact hq
  exact within_checkpoint (within_modDisp_fill hJoined q.disp (fun p => { p with state := .waitPrecool }) fun _ => rfl) _

theorem withinResult_takeAdmission (h : t.within) {q : AdmissionRequest} (hq : q.within) :
    WithinResult (t.takeAdmission q) := by
  unfold State.takeAdmission
  split
  · next g f _ hTest =>
    refine withinResult_of (within_reserve h q g f) _ fun k hk => ?_
    obtain rfl := List.mem_singleton.1 hk
    exact hq _ (admissionTest_mem hTest)
  · exact withinResult_nil (within_joinPrecoolList h hq)

theorem withinResult_admitHead (h : t.within) : WithinResult t.admitHead := by
  unfold State.admitHead
  split
  · exact withinResult_nil h
  · next w rest hList =>
    have hw : w.request.within := h.2.2 w (hList ▸ List.mem_cons_self)
    split
    · exact withinResult_nil h
    · next g f hTest =>
      refine withinResult_of (within_reserve (within_modPrecool h _ fun x hx =>
        h.2.2 x (hList ▸ List.mem_cons_of_mem w hx)) _ _ _) _ fun k hk => ?_
      rcases List.mem_cons.1 hk with rfl | hk
      · exact hw _ (admissionTest_mem hTest)
      · obtain rfl := List.mem_singleton.1 hk
        trivial

theorem within_planned (h : t.within) (d : Four) (r : VehicleReceiver → VehicleReceiver) (sn : Option Snapshot)
    (least : Option Nat) : ((t.modReceiver d r).modFill d fun f => { f with snapshot := sn, least := least }).within :=
  within_modFill ((within_modReceiver t d r).2 h) d _ fun _ hx => hx

theorem withinResult_plan (h : t.within) (d : Four) : WithinResult (t.plan d) := by
  unfold State.plan
  split
  · dsimp only
    split
    · exact withinResult_of (within_planned h d _ _ _) _ (by simp [Task.figuresWithin])
    · refine withinResult_takeAdmission (within_planned h d _ _ _) fun x hx => ?_
      exact planFigures_le hx
  · exact withinResult_of h _ (by simp [Task.figuresWithin])

theorem setHalt_fill (p : Dispenser) : p.setHalt.fill = p.fill := by
  unfold Dispenser.setHalt
  split <;> rfl

theorem withinResult_enterFuelling (h : t.within) (d : Four) (g : Grade) {f : Figures} (hf : f.target ≤ 87500) :
    WithinResult (t.enterFuelling d g f) := by
  have hEntered := fun (v : Dispenser → Dispenser) (hv : ∀ p, (v p).fill = p.fill.map fun r =>
      { r with
        ramp := some (Ramp.mk g f.target f.rate f.expected (r.p0.getD 0) 0 none), admitted := some g,
        downgrades := some 0 }) =>
    within_commandSetpoint (within_mapFill h d v _ hv fun x _ r hr => by
      obtain rfl := Option.some.inj hr
      exact hf) d
  unfold State.enterFuelling
  split
  · dsimp only
    split
    · split
      · exact withinResult_of (hEntered _ fun _ => rfl) _ (by simp [Task.figuresWithin])
      · refine withinResult_of (within_ite (within_modDisp_fill ?_ d _ setHalt_fill) ?_) _ (by simp [Task.figuresWithin])
        · exact hEntered _ fun _ => rfl
        · exact hEntered _ fun _ => rfl
    · exact withinResult_of (hEntered _ fun _ => rfl) _ (by simp [Task.figuresWithin])
  · exact withinResult_nil h

theorem withinResult_fuelRequest (h : t.within) (d : Four) : WithinResult (t.fuelRequest d) := by
  unfold State.fuelRequest
  split
  · split <;> exact withinResult_of h _ (by simp [Task.figuresWithin])
  · exact withinResult_nil h

theorem completeTasks_figures (u : State) (d : Four) : ∀ k ∈ u.completeTasks d, k.figuresWithin := by
  unfold State.completeTasks
  split <;> simp [Task.figuresWithin]

/-- The fill as a fallback leaves it (R105). -/
def Fill.fallenBack (m : Nat) (f : Fill) : Fill :=
  let f1 :=
    match f.snapshot, f.ramp with
    | some sn, some r => f.recompute r.grade sn.socNc m
    | _, _ => f
  { f1 with
    fallback := true,
    snapshot := f1.snapshot.map fun sn => { sn with vehicle := { sn.vehicle with comm := .noncomm } } }

theorem fallenBack_aimsWithin {x : Fill} (h : x.aimsWithin) (m : Nat) : (x.fallenBack m).aimsWithin := by
  unfold Fill.fallenBack
  dsimp only
  split
  · exact recompute_aimsWithin h _ _ _
  · exact h

/-- The state before a fallback commands its setpoint (R105 steps 1 to 3). -/
def State.beforeFallback (s : State) (d : Four) : State :=
  ((s.modReceiver d fun r => { r with watch := .idle, disagree := 0, fallbacks := satInc top16 r.fallbacks }).modDisp d
    (·.clearHalt)).modFill d (·.fallenBack (s.meterRec d).mass)

theorem within_beforeFallback (h : t.within) (d : Four) : (t.beforeFallback d).within :=
  within_modFill (within_modDisp_fill ((within_modReceiver t d _).2 h) d (·.clearHalt) fun _ => rfl) d
    (·.fallenBack (t.meterRec d).mass) fun _ hx => fallenBack_aimsWithin hx _

theorem fallback_eq (t : State) (d : Four) (h : (t.disp d).state = .fuelling) :
    t.fallback d =
      ((t.beforeFallback d).commandSetpoint d, ((t.beforeFallback d).commandSetpoint d).completeTasks d) :=
  if_pos h

theorem withinResult_fallback (h : t.within) (d : Four) : WithinResult (t.fallback d) := by
  by_cases hState : (t.disp d).state = .fuelling
  · rw [fallback_eq t d hState]
    exact ⟨within_commandSetpoint (within_beforeFallback h d) d, completeTasks_figures _ d⟩
  · unfold State.fallback
    rw [if_neg hState]
    exact withinResult_nil h

/-- The dispenser as a downgrade to grade `g` leaves it (R90). -/
def Dispenser.downgraded (m : Nat) (g : Grade) (p : Dispenser) : Dispenser :=
  { p with
    fill := p.fill.map fun f =>
      { f.recompute g (f.snapshot.elim 0 (·.vehicle.soc)) m with downgrades := f.downgrades.map (· + 1) },
    stats := { p.stats with downgrades := satInc top16 p.stats.downgrades } }

theorem within_downgraded (h : t.within) (d : Four) (m : Nat) (g : Grade) : (t.modDisp d (·.downgraded m g)).within :=
  within_mapFill h d _ _ (fun _ => rfl) fun _ hx => recompute_aimsWithin hx g _ m

theorem withinResult_downgrade (h : t.within) (d : Four) (g g' : Grade) : WithinResult (t.downgrade d g g') := by
  unfold State.downgrade
  refine ⟨?_, completeTasks_figures _ d⟩
  exact (within_post _ _ _ _).2 (within_modPrecool_list
    (within_commandSetpoint (within_downgraded h d (t.meterRec d).mass g') d) _ rfl)

theorem withinResult_precoolTest (h : t.within) (d : Four) : WithinResult (t.precoolTest d) := by
  unfold State.precoolTest
  split
  · split
    · exact withinResult_nil h
    · dsimp only
      have hCounted := fun x : Option Reservation =>
        within_modPrecool_list h (fun p => { p with table := p.table.set d x }) rfl
      split
      · exact withinResult_nil (hCounted _)
      · split
        · exact withinResult_of (hCounted _) _ (by simp [Task.figuresWithin])
        · exact withinResult_downgrade (hCounted _) d _ _
  · exact withinResult_nil h

theorem within_restartRamp (h : t.within) (d : Four) : (t.restartRamp d).within :=
  within_ite (within_modTimers h d _) h

/-- Every consequence whose figures are within leaves the state and what follows within. -/
theorem withinResult_doTask (h : t.within) (k : Task) (hk : k.figuresWithin) : WithinResult (t.doTask k) := by
  cases k with
  | endCause d c => exact withinResult_endCause h d c
  | endingRest d => exact withinResult_nil (within_endingRest h d)
  | release b d => exact withinResult_release h b d
  | freeBank b => exact withinResult_freeBank h b
  | serve b => exact withinResult_serveWaiters h b
  | rewalk b => exact withinResult_rewalkWaiters h b
  | walk d x => exact withinResult_walk h d x
  | grant d b => exact withinResult_grant h d b
  | takeGrant d b old => exact withinResult_takeGrant h d b old
  | lose b =>
    refine ⟨within_of_compFrame h (compFrame_loseBank (CompFrame.refl t) b), ?_⟩
    unfold State.doTask State.loseBank
    dsimp only
    split <;> simp [Task.figuresWithin]
  | choose a left =>
    refine ⟨within_of_compFrame h (compFrame_choose (CompFrame.refl t) a left), ?_⟩
    unfold State.doTask State.choose
    dsimp only
    split
    · split
      · simp
      · split
        · simp [Task.figuresWithin]
        · split
          · simp [Task.figuresWithin]
          · split <;> simp
    · simp
  | isolate b => exact withinResult_isolateBank h b
  | switchDemand d => exact withinResult_switchDemand h d
  | mismatch d => exact withinResult_mismatch h d
  | latch c b =>
    refine ⟨h, ?_⟩
    unfold State.doTask State.latch
    dsimp only
    split <;> simp [Task.figuresWithin]
  | shutdown c =>
    refine ⟨h, ?_⟩
    simp [State.doTask, State.shutdown, Four.all, Task.figuresWithin]
  | compShutdown => exact withinResult_nil (within_of_compFrame h (compFrame_compShutdown (CompFrame.refl t)))
  | plan d => exact withinResult_plan h d
  | admitHead => exact withinResult_admitHead h
  | enterFuelling d g f => exact withinResult_enterFuelling h d g hk
  | fuelRequest d => exact withinResult_fuelRequest h d
  | fuelCheckpoint d => exact withinResult_nil (within_checkpoint h d)
  | fallback d => exact withinResult_fallback h d
  | rampBank d => exact withinResult_switchTests h d
  | rampPrecool d => exact withinResult_precoolTest h d
  | rampRestart d => exact withinResult_nil (within_restartRamp h d)
  | unload => exact withinResult_nil (within_of_compFrame h (compFrame_unload (CompFrame.refl t)))

theorem within_runTasks (n : Nat) : ∀ (ts : List Task) (t : State), t.within → (∀ k ∈ ts, k.figuresWithin) →
    (State.runTasks n ts t).within := by
  induction n with
  | zero =>
    intro ts t h _
    cases ts <;> exact h
  | succ n ih =>
    intro ts t h hts
    cases ts with
    | nil => exact h
    | cons k ts =>
      have hDone := withinResult_doTask h k (hts k List.mem_cons_self)
      refine ih _ _ hDone.1 fun j hj => ?_
      rcases List.mem_append.1 hj with hj | hj
      · exact hDone.2 j hj
      · exact hts j (List.mem_cons_of_mem k hj)

/-- An agenda whose figures are within leaves the state within. -/
theorem within_take (h : t.within) (ts : List Task) (hts : ∀ k ∈ ts, k.figuresWithin) : (t.take ts).within :=
  within_runTasks _ ts t h hts

theorem within_endFill (h : t.within) (d : Four) (c : Cause) : (t.endFill d c).within :=
  within_take h _ (by simp [Task.figuresWithin])

theorem within_settled {p : State × List Task} (h : WithinResult p) : (settled p).within := within_take h.1 _ h.2

end Sys2Proof.Machine
end

section
/-!
PROOF. Every command keeps the setpoints and the targets within the highest ceiling, and so does every step (O58).
-/

namespace Sys2Proof.Machine

variable {t : State}

/-! ## Shared operations -/

theorem within_modField (h : t.within) (f : Field → Field) (hf : (f t.field).pcv = t.field.pcv) :
    (t.modField f).within := ⟨fun d => hf ▸ h.1 d, h.2⟩

theorem within_setSweep (h : t.within) (g : Field → Sweep) : (t.modField fun f => { f with sweep := g f }).within := h

theorem within_compareFeedback (h : t.within) : t.compareFeedback.within := by
  unfold State.compareFeedback
  split <;> exact h

theorem within_beginCreation (h : t.within) (e : LogEntry) : (t.beginCreation e).within := h

theorem within_completeCreation (h : t.within) (c : Creation) : (t.completeCreation c).within :=
  within_testMarks ((within_modLog t _).2 h)

theorem within_settleEntry (h : t.within) (n : Nat) : (t.settleEntry n).within :=
  within_testMarks ((within_modLog t _).2 h)

theorem within_restartSupervision (h : t.within) : t.restartSupervision.within := h

theorem within_handFailed (h : t.within) (ch : Channel) : WithinResult (t.handFailed ch) := by
  cases ch with
  | primary d | secondary d =>
    refine withinResult_of h _ ?_
    split <;> simp [Task.figuresWithin]
  | outlet d =>
    refine withinResult_of h _ ?_
    split <;> simp [Task.figuresWithin]
  | bank b =>
    have hDemand : ∀ k ∈ (match (t.bank b).state with
        | .drawing d => [Task.switchDemand d]
        | _ => []), k.figuresWithin := by
      split <;> simp [Task.figuresWithin]
    simp only [State.handFailed]
    split
    · refine ⟨within_of_compFrame h (compFrame_stall (CompFrame.refl t) b 2), fun k hk => ?_⟩
      rcases List.mem_append.1 hk with hk | hk
      · exact hDemand k hk
      · obtain rfl := List.mem_singleton.1 hk
        trivial
    · exact withinResult_of h _ hDemand
  | supply => exact withinResult_nil (within_of_compFrame h (compFrame_judgeSupply (CompFrame.refl t)))
  | ambient | precoolOutlet => exact withinResult_nil h

theorem within_failChannel (h : t.within) (ch : Channel) (r : ChanRec) (n : Nat) : (t.failChannel ch r n).within :=
  within_settled (within_handFailed (t := (t.setChan ch _).post _ _ _) h ch)

theorem within_faultValve (h : t.within) (v : Valve) (st : ValveState) : (t.faultValve v st).within := by
  refine within_take (t := (t.setValve v _).post _ _ _) h _ fun k hk => ?_
  rcases List.mem_append.1 hk with hk | hk
  · split at hk
    · split at hk
      · obtain rfl := List.mem_singleton.1 hk; trivial
      · cases hk
    · split at hk
      · obtain rfl := List.mem_singleton.1 hk; trivial
      · cases hk
    · obtain rfl := List.mem_singleton.1 hk; trivial
  · split at hk
    · obtain rfl := List.mem_singleton.1 hk; trivial
    · cases hk

/-! ## Frames and requests -/

theorem within_superviseFrame (h : t.within) : t.superviseFrame.within := by
  unfold State.superviseFrame
  split <;> exact h

theorem within_takeFrame (h : t.within) (k g : Byte) (body : List Byte) : (t.takeFrame k g body).within := by
  have hSup := within_superviseFrame h
  unfold State.takeFrame
  dsimp only
  split
  · unfold State.noteBusy
    split <;> exact hSup
  · split <;> exact hSup

theorem within_completeFrame (h : t.within) (f : Frame) : (t.completeFrame f).within := by
  unfold State.completeFrame
  split
  · exact h
  · split
    · exact h
    · exact within_takeFrame h _ _ _

theorem within_serveRequest (owner : Owner) (ho : ∀ u : State, u.within → (owner u).1.within) (h : t.within) :
    (t.serveRequest owner).within := by
  have hOwner := ho t h
  unfold State.serveRequest
  split
  · next u a hu => rw [hu] at hOwner; simpa using hOwner
  · next u hu => rw [hu] at hOwner; exact hOwner

theorem within_takeRequest (h : t.within) (k g : Byte) (body : List Byte) (owner : Owner)
    (ho : ∀ u : State, u.within → (owner u).1.within) : (t.takeRequest k g body owner).within := by
  unfold State.takeRequest
  have hFrame := within_takeFrame h k g body
  split
  · exact within_serveRequest owner ho h
  · dsimp only
    split
    · exact within_serveRequest owner ho hFrame
    · exact hFrame

theorem within_ownerOf (b : Byte) (f : Four → State → State × Answer) (hf : ∀ d u, u.within → (f d u).1.within)
    (u : State) (hu : u.within) : (ownerOf b f u).1.within := by
  unfold ownerOf
  split
  · exact hf _ u hu
  · exact hu

theorem within_broadcastOwner (b : Byte) (f : Four → State → State × Answer) (hf : ∀ d u, u.within → (f d u).1.within)
    (u : State) (hu : u.within) : (broadcastOwner b f u).1.within := by
  unfold broadcastOwner
  split
  · simp only [Four.all, List.foldl_cons, List.foldl_nil]
    exact hf _ _ (hf _ _ (hf _ _ (hf _ u hu)))
  · exact within_ownerOf b f hf u hu

/-! ## Start-up, the sweep and resets -/

theorem within_checkCalibration (h : t.within) : t.checkCalibration.within := by
  unfold State.checkCalibration
  split
  · exact h
  · exact within_take (t := t.modMeter _) h _ (by simp [Task.figuresWithin])

theorem within_recoverNext (h : t.within) : t.recoverNext.within := by
  unfold State.recoverNext
  split
  · exact h
  · exact within_modField ((within_modSup _ _).2 (within_testMarks ((within_modLog t _).2 h))) _ rfl

theorem within_beginStartUp (h : t.within) : t.beginStartUp.within := by
  have hLoad : t.loadConfig.within := within_modPrecool_list (t := (t.modSup _).modComp _) h _ rfl
  unfold State.beginStartUp
  exact within_recoverNext ((within_modSup _ _).2 (within_checkCalibration ((within_modSup _ _).2 hLoad)))

theorem within_openedAtStart (h : t.within) : t.openedAtStart.within := by
  refine List.foldlRecOn _ _ h fun u hu d _ => ?_
  split
  · exact within_modDisp_fill hu d _ fun _ => rfl
  · exact hu

theorem within_finishStartUp (h : t.within) : t.finishStartUp.within := by
  have hDone : t.startUpDone.within := within_openedAtStart h
  rw [finishStartUp_eq]
  split
  · exact within_restartSupervision (within_take hDone _ (by simp [Task.figuresWithin]))
  · exact within_evalStart (within_restartSupervision ((within_modSup _ _).2 hDone))

theorem within_readValve (h : t.within) (v : Valve) : (t.readValve v).within := by
  unfold State.readValve
  dsimp only
  split
  · exact h
  · split
    · exact h
    · exact within_faultValve h v _
  · exact h

theorem within_endSweep (h : t.within) : t.endSweep.within := by
  have hRead := within_setSweep
    (List.foldlRecOn allValves (fun t v => State.readValve t v) h fun u hu v _ => within_readValve hu v)
    fun _ => resetSweep
  unfold State.endSweep
  dsimp only
  split
  · exact within_finishStartUp hRead
  · exact within_evalStart hRead

theorem within_judgeChannel (h : t.within) (ch : Channel) (reads : List Nat) : (t.judgeChannel ch reads).within := by
  unfold State.judgeChannel
  dsimp only
  split
  · exact h
  · split
    · exact within_settled (within_handFailed h ch)
    · exact within_failChannel h ch _ _

theorem within_beginValvePart (h : t.within) : t.beginValvePart.within := by
  have hClosed := within_setSweep (within_closeAll h allValves) fun f =>
    { f.sweep with phase := .valves, wait := some 2000 }
  unfold State.beginValvePart
  dsimp only
  split
  · exact (within_modSup _ _).2 hClosed
  · exact hClosed

theorem within_sweepStep (h : t.within) (c : Converter) (i : Nat) : (t.sweepStep c i).within := by
  unfold State.sweepStep
  dsimp only
  split
  · exact h
  · next ch _ =>
    have hJudged := fun n => within_judgeChannel (t := t.setConv c ⟨n, []⟩) h ch
    split
    · exact h
    · split
      · exact within_beginValvePart (hJudged _ _)
      · exact hJudged _ _

theorem within_afterReset (s : State) (k : ResetKind) : (s.afterReset k).within := by
  refine ⟨fun d => ?_, fun d f hf => ?_, fun w hw => ?_⟩
  · change (Quad.fill 0).get d ≤ 87500
    rw [quad_get_fill]
    exact Nat.zero_le _
  · change ((Quad.fill resetDispenser).get d).fill = some f at hf
    rw [quad_get_fill] at hf
    cases hf
  · cases k <;> cases hw

/-! ## The owners of the requests -/

theorem within_readNotice (h : t.within) : t.readNotice.1.within := by
  unfold State.readNotice
  split <;> exact h

theorem within_takeReset (h : t.within) (force : Bool) : (t.takeReset force).1.within := by
  unfold State.takeReset State.askReset
  split
  · exact h
  · dsimp only
    split
    · exact h
    · split
      · exact within_take (t := t.modSup _) h _ (by simp [Four.all, Task.figuresWithin])
      · exact h

theorem within_resume (h : t.within) : t.resume.1.within := by
  unfold State.resume
  dsimp only
  split
  · split
    · exact h
    · exact within_evalStart (within_of_compFrame (t := ((t.clearLatches).modSup _).post _ _ _) h
        (compFrame_compResume (CompFrame.refl _)))
  · exact h

theorem within_enableChanged (h : t.within) (c : FaultCause) : (t.enableChanged c).within := by
  unfold State.enableChanged
  split
  · exact within_take h _ (by simp [Task.figuresWithin])
  · exact h

theorem within_actset (h : t.within) (cause : Byte) (v : Bool) :
    (match faultCauseOf cause.toNat with
      | some k => (t.setAction k v, okAnswer)
      | none => (t, badValue 1)).1.within := by
  split
  · exact within_enableChanged (t := t.modSup _) h _
  · exact h

theorem within_selftest (h : t.within) : t.selftest.1.within := by
  unfold State.selftest State.beginSweep
  split
  · exact h
  · split
    · exact h
    · split
      · exact within_modField h _ rfl
      · exact within_modField h _ rfl
      · exact within_modField h _ rfl
      · exact h

theorem within_startLimitChanged (h : t.within) : t.startLimitChanged.within := by
  unfold State.startLimitChanged
  dsimp only
  split
  · exact h
  · split
    · exact within_evalStart (t := (t.modComp _).modComp _) h
    · exact h

theorem within_writeRank (h : t.within) (b : Four) (r : Nat) : (t.writeRank b r).1.within := by
  unfold State.writeRank
  split
  · exact h
  · split
    · exact h
    · split
      · exact h
      · split <;> exact h

theorem within_afterWrite (h : t.within) (g n : Nat) : (t.afterWrite g n).within := by
  unfold State.afterWrite
  split
  · split
    · exact within_restartSupervision h
    · split
      · exact within_startLimitChanged h
      · cases enableCause n with
        | none => exact h
        | some c => exact within_enableChanged h c
  · split
    · exact within_modPrecool_list h _ rfl
    · exact h

theorem within_writeConfigItem (h : t.within) (g i n : Nat) (v : Word) : (t.writeConfigItem g i n v).1.within := by
  unfold State.writeConfigItem
  split
  · exact h
  · split
    · exact h
    · split
      · exact within_writeRank h _ _
      · exact within_afterWrite (t := t.modSup _) h g n

theorem within_readConfig (h : t.within) (g i n : Nat) : (t.readConfig g i n).1.within := by
  unfold State.readConfig
  split
  · exact h
  · split <;> exact h

theorem within_authorize (h : t.within) (d : Four) (a : AuthorizeBody) : (t.authorize d a).1.within := by
  have hChecked := within_checkCalibration h
  unfold State.authorize
  split
  · exact h
  · split
    · exact h
    · split
      · exact h
      · dsimp only
        split
        · exact hChecked
        · split
          · exact hChecked
          · next v c _ =>
            have hAccepted := within_modDisp_fill
              (t := (t.checkCalibration.modMeterRec d fun m => { m with sale := some c }).beginCreation
                (newEntry t.checkCalibration d a c)) hChecked d
              (fun p =>
                { p with
                  state := .authorized, captured := some v, lastCause := none,
                  timers := { p.timers with auth := seconds t.checkCalibration.work.site.authTimeout } }) fun _ => rfl
            unfold State.acceptAuthorize
            dsimp only
            split
            · exact within_preStartClose hAccepted d _
            · exact hAccepted

theorem within_cancel (h : t.within) (d : Four) : (t.cancel d).1.within := by
  unfold State.cancel
  split
  · exact within_preStartClose h d _
  · exact h

theorem within_clear (h : t.within) (d : Four) : (t.clear d).1.within := by
  unfold State.clear
  split
  · split
    · exact within_modDisp_fill h d _ fun _ => rfl
    · exact h
  · exact h

theorem takeOpen_fill (p : Dispenser) : p.takeOpen.fill = p.fill := by
  unfold Dispenser.takeOpen
  split <;> rfl

theorem takeClose_fill (p : Dispenser) : p.takeClose.fill = p.fill := by
  unfold Dispenser.takeClose
  split <;> rfl

theorem within_restoreBank (h : t.within) (b : Four) : (t.restoreBank b).within := by
  have hReady := within_evalStart (t := t.modBank b fun k => { k with state := .ready, refillFailed := false }) h
  unfold State.restoreBank
  split
  · dsimp only
    split
    · exact within_of_compFrame hReady (compFrame_autoDemand (CompFrame.refl _) b)
    · exact hReady
  · exact h

theorem within_takeRefill (h : t.within) (b : Four) (p : Nat) : (t.takeRefill b p).1.within := by
  unfold State.takeRefill State.queueRefill
  split
  · exact h
  · refine within_evalStart ((within_modBank _ _ _).2 ?_)
    split <;> exact h

theorem within_returnToService (h : t.within) : t.returnToService.within :=
  within_of_compFrame h (compFrame_returnToService (CompFrame.refl t))

theorem within_compressorOn (h : t.within) : t.compressorOn.1.within := by
  unfold State.compressorOn
  split
  · exact h
  · split
    · exact within_returnToService h
    · exact within_returnToService h
    · exact h

theorem within_compressorOff (h : t.within) : t.compressorOff.within := by
  unfold State.compressorOff
  dsimp only
  split
  · exact h
  · exact h
  · exact h
  · exact h
  · exact h
  · exact within_of_compFrame (t := t.modComp _) h (compFrame_enterUnloading (CompFrame.refl _))

theorem within_settle (h : t.within) (n : Nat) : (t.settle n).1.within := by
  unfold State.settle
  split
  · exact h
  · split
    · exact within_settleEntry h n
    · exact h
    · exact h

theorem within_calOpen (h : t.within) : t.calOpen.1.within := by
  unfold State.calOpen
  split
  · exact h
  · split
    · exact h
    · split
      · exact h
      · split <;> exact h

theorem within_calWrite (h : t.within) (d : Four) (k : Nat) : (t.calWrite d k).1.within := by
  unfold State.calWrite
  split <;> exact h

theorem within_calClose (h : t.within) : t.calClose.1.within := by
  unfold State.calClose
  split <;> exact h

theorem within_takeStats (h : t.within) (a b : Nat) : (t.takeStats a b).1.within := by
  unfold State.takeStats
  split
  · exact h
  · exact within_modDisp_fill h _ _ fun _ => rfl
  · exact h
  · exact h

/-! ## The rows that are no requests -/

theorem within_insideByte (h : t.within) (bs : List Byte) : (t.insideByte bs).within := by
  unfold State.insideByte
  dsimp only
  split
  · exact h
  · split
    · exact h
    · split
      · exact h
      · exact within_completeFrame ((within_hunt t).2 h) _

theorem overshootTest_fill (q : Dispenser) (p n : Nat) : (q.overshootTest p n).fill = q.fill := by
  unfold Dispenser.overshootTest
  split
  · split <;> rfl
  · split <;> rfl

theorem within_goodPrimary (h : t.within) (d : Four) : (t.goodPrimary d).within := by
  unfold State.goodPrimary
  split
  · split
    · split
      · exact within_modDisp_fill h d _ fun q => overshootTest_fill q _ _
      · exact h
    · exact within_modDisp_fill h d _ fun _ => rfl
    · exact h
  · exact h

theorem within_takePrimary (h : t.within) (d : Four) : (t.takePrimary d).within := by
  unfold State.takePrimary
  split
  · split
    · exact within_endFill h d _
    · exact within_goodPrimary h d
  · exact h

theorem within_dualCheck (h : t.within) (d : Four) : (t.dualCheck d).within := by
  unfold State.dualCheck
  dsimp only
  split
  · exact within_ite (within_endFill (within_modField h _ rfl) d _) (within_modField h _ rfl)
  · exact h

theorem compFrame_finishEntry' (b : Four) :
    CompFrame t (((t.endDelivery b).refillEntry b).elim (t.endDelivery b) (t.endDelivery b).finishEntry) := by
  have hEnd := compFrame_endDelivery (CompFrame.refl t) b
  cases (t.endDelivery b).refillEntry b with
  | none => exact hEnd
  | some e => simpa [State.finishEntry] using hEnd

theorem within_compressorSample (h : t.within) (b : Four) : (t.compressorSample b).within := by
  have hEnd := within_of_compFrame h (compFrame_endDelivery (CompFrame.refl t) b)
  unfold State.compressorSample
  split
  · split
    · split
      · exact within_take (t := ((t.endDelivery b).modComp _).post _ _ _) hEnd _ (by simp [Task.figuresWithin])
      · split
        · exact within_take (within_of_compFrame h (compFrame_finishEntry' b)) _ (by simp [Task.figuresWithin])
        · exact h
    · exact h
  · split
    · exact within_evalStart h
    · exact h

theorem within_lowTest (h : t.within) (b : Four) (p : Nat) : (t.lowTest b p).within := by
  unfold State.lowTest
  dsimp only
  split
  · split
    · exact h
    · exact within_of_compFrame (t := (t.modBank b _).post _ _ _) h (compFrame_autoDemand (CompFrame.refl _) b)
  · split <;> exact h

theorem within_handSample (h : t.within) (c : Channel) : (t.handSample c).within := by
  cases c with
  | primary d => exact within_dualCheck (within_takePrimary h d) d
  | secondary d | outlet d =>
    simp only [State.handSample]
    split
    · exact within_settled (within_handFailed h _)
    · exact h
  | bank b =>
    refine within_compressorSample ?_ b
    split
    · split
      · exact within_lowTest h b _
      · exact h
    · exact h
  | supply => exact within_of_compFrame h (compFrame_judgeSupply (CompFrame.refl t))
  | ambient | precoolOutlet => exact h

theorem newFill_aimsWithin (d : Four) : (t.newFill d).aimsWithin := fun r hr => by cases hr

theorem within_enterConnecting (h : t.within) (d : Four) : (t.enterConnecting d).within := by
  have hFill := within_checkpoint ((within_modMeterRec _ d fun m =>
    { m with pulses := 0, mass := 0, flow := List.replicate 10 0, final := none }).2
      (within_modDisp h d
        (fun p => { p with state := .connecting .bank, fill := some (t.newFill d), timers := { p.timers with auth := none } })
        fun _ x hx => Option.some.inj hx ▸ newFill_aimsWithin d)) d
  unfold State.enterConnecting
  dsimp only
  split
  · exact within_endFill hFill d _
  · exact within_take hFill _ (by simp [Task.figuresWithin])

theorem within_switchEvent (h : t.within) (w : Switch) (l : Level) : (t.switchEvent w l).within := by
  unfold State.switchEvent
  split
  · unfold State.nozzleIn
    split
    · exact within_modDisp_fill h _ _ fun _ => rfl
    · exact within_endFill h _ _
  · exact h
  · unfold State.pressStart
    split
    · exact within_enterConnecting h _
    · exact h
  · exact h
  · exact within_endFill h _ _
  · exact h
  · exact within_take h _ (by simp [Task.figuresWithin])
  · exact h
  · exact within_take h _ (by simp [Task.figuresWithin])
  · exact h
  · unfold State.sealChange
    dsimp only
    split <;> exact h

theorem within_debounceExpiry (h : t.within) (w : Switch) : ∃ u, exec (.debounceExpiry w) t = .next u ∧ u.within := by
  refine ⟨_, rfl, ?_⟩
  dsimp only
  split
  · split
    · exact within_switchEvent (t := t.setSwitch w _) h w _
    · split
      · exact within_beginStartUp (t := t.setSwitch w _) h
      · exact h
  · exact h

theorem within_valveFeedbackSettled (h : t.within) (v : Valve) :
    ∃ u, exec (.valveFeedbackSettled v) t = .next u ∧ u.within := by
  refine ⟨_, rfl, ?_⟩
  dsimp only
  split
  · split
    · exact h
    · split
      · exact h
      · split
        · exact h
        · split
          · exact h
          · exact within_faultValve (t := t.setValve v _) h v _
  · exact h

theorem within_thermalUpdate (h : t.within) : ∃ u, exec .thermalUpdate t = .next u ∧ u.within := by
  have hClamped := within_modPrecool_list h (fun p =>
    let e := (min (t.precool.balance t.work.precool) t.work.precool.eMax).toNat
    { p with
      reserve := e, charge := 0,
      lowMark := if t.precool.balance t.work.precool ≤ 0 then true else if 0 < e then false else p.lowMark }) rfl
  have hBalanced : t.balanceReserve.within := by
    unfold State.balanceReserve
    dsimp only
    split <;> exact hClamped
  exact ⟨_, rfl, within_take (within_modPrecool_list hBalanced _ rfl) _ (by simp [Task.figuresWithin])⟩

theorem haltTest_fill (r : Report) (p : Dispenser) :
    (match r.command with
      | .halt => p.setHalt
      | _ => p.clearHalt).fill = p.fill := by
  split
  · exact setHalt_fill p
  · rfl

theorem within_handReport (h : t.within) (d : Four) (r : Report) : (t.handReport d r).within := by
  unfold State.handReport
  split
  · exact h
  · cases r.firstTests with
    | none => exact h
    | some c => exact within_endFill h d c
  · unfold State.watchReport
    split
    · exact within_endFill h d _
    · split
      · exact within_endFill h d _
      · dsimp only
        split
        · exact within_take (t := t.modReceiver d _) h _ (by simp [Task.figuresWithin])
        · exact within_modDisp_fill (t := t.modReceiver d _) h d _ (haltTest_fill r)

theorem within_vehicleReportFrame (h : t.within) (d : Four) (bs : List Byte) :
    ∃ u, exec (.vehicleReportFrame d bs) t = .next u ∧ u.within := by
  refine ⟨_, rfl, ?_⟩
  split
  · exact h
  · exact h
  · exact within_handReport (t := t.modReceiver d _) h d _

theorem chargeMass_waitList (p : Precool) (d : Four) (m : Nat) : (p.chargeMass d m).waitList = p.waitList := by
  unfold Precool.chargeMass
  split <;> rfl

theorem within_handIncrement (h : t.within) (d : Four) (m : Nat) : (t.handIncrement d m).within := by
  have hCharged : (t.modPrecool fun p => p.chargeMass d m).within := within_modPrecool_list h _ (chargeMass_waitList _ d m)
  have hMarked := within_ite (p := ((t.modPrecool fun p => p.chargeMass d m).meterRec d).mass % 50 = 0)
    (within_checkpoint hCharged d) hCharged
  exact within_ite (within_endFill hMarked d _) hMarked

theorem within_meterPulse (h : t.within) (d : Four) : ∃ u, exec (.meterPulse d) t = .next u ∧ u.within := by
  refine ⟨_, rfl, ?_⟩
  split
  · unfold State.meteredPulse
    dsimp only
    split
    · split
      · exact within_handIncrement (t := t.modMeterRec d _) h d _
      · exact h
    · exact h
  · unfold State.creepPulse
    dsimp only
    split <;> exact h

theorem within_endPulse (h : t.within) (d : Four) : (t.endPulse d).within := by
  have hClosed := fun u (hu : State.within u) => within_modDisp_fill
    (within_setPcv ((within_command u (.dv d) .closed).2 hu) d (Nat.zero_le _)) d
    (fun p => { p with state := .connecting .settle, timers := { p.timers with pulse := none, settle := some 2000 } })
    fun _ => rfl
  unfold State.endPulse
  dsimp only
  split
  · exact within_take (hClosed (t.command _ .closed) h) _ (by simp [Task.figuresWithin])
  · exact hClosed t h

theorem within_judgeLeak (h : t.within) (d : Four) : (t.judgeLeak d).within := by
  have hDropped := fun n => within_modDisp_fill h d
    (fun p => { p with leakDrop := n, timers := { p.timers with leak := none } }) fun _ => rfl
  unfold State.judgeLeak
  split
  · exact within_endFill h d _
  · dsimp only
    split
    · exact within_endFill (hDropped _) d _
    · exact within_take (hDropped _) _ (by simp [Task.figuresWithin])

theorem within_timedEnd (h : t.within) (d : Four) (b : Bool) (c : Cause) : (t.timedEnd d b c).within := by
  unfold State.timedEnd
  split
  · exact within_endFill h d c
  · exact h

theorem advance_target (r : Ramp) (b : Bool) : (r.advance b).target = r.target := by
  unfold Ramp.advance
  split <;> rfl

theorem advance_aimsWithin {f : Fill} (h : f.aimsWithin) (b : Bool) :
    Fill.aimsWithin { f with ramp := f.ramp.map fun r => r.advance b } := by
  intro r hr
  obtain ⟨q, hq, rfl⟩ := Option.map_eq_some_iff.1 hr
  exact (advance_target q b).trans_le (h q hq)

theorem within_rampStep (h : t.within) (d : Four) : ∃ u, exec (.rampStep d) t = .next u ∧ u.within := by
  refine ⟨_, rfl, ?_⟩
  split
  · exact within_take (within_commandSetpoint (within_modFill h d
      (fun f => { f with ramp := f.ramp.map fun r => r.advance (t.disp d).held }) fun x hx => advance_aimsWithin hx _) d) _
      (by simp [Task.figuresWithin])
  · exact h

theorem within_enterLeakCheck (h : t.within) (d : Four) (p : Nat) : (t.enterLeakCheck d p).within :=
  within_checkpoint (within_mapFill h d
    (fun q =>
      { q with
        state := .leakCheck, leakRing := [], fill := q.fill.map fun f => { f with p0 := some p },
        timers := { q.timers with settle := none, leak := seconds t.work.site.leakHold } })
    (fun f => { f with p0 := some p }) (fun _ => rfl) fun _ hx => hx) d

theorem leaveEnding_fill (p : Dispenser) (c : Cause) (b : Bool) : (p.leaveEnding c b).fill = p.fill := by
  unfold Dispenser.leaveEnding
  dsimp only
  split
  · rfl
  · split <;> rfl

theorem within_finishEnding (h : t.within) (d : Four) : (t.finishEnding d).within := by
  have hClosed := fun (f : MeterRec → MeterRec) (c : Option Cause) (m : FinalFigures) =>
    within_closeEntry (within_modPrecool_list (t := t.modMeterRec d f) h
      (fun p => { p with table := p.table.set d none }) rfl) d fun e =>
        let e1 := match ((t.modMeterRec d f).disp d).fill with
          | none => e
          | some f => { e.copyFill f with held := false }
        { e1 with
          mass := m.mass, billed := m.billed, overrun := m.overrun, cause := c,
          finalPressure := ((t.modMeterRec d f).pDisp d).getD 0 }
  unfold State.finishEnding
  dsimp only
  refine within_modDisp_fill ?_ d _ fun p => leaveEnding_fill p _ _
  split
  · exact hClosed _ _ _
  · exact hClosed _ _ _

theorem linkActionTasks_figures (u : State) : ∀ k ∈ u.linkActionTasks, k.figuresWithin := by
  intro k hk
  obtain ⟨d, -, rfl⟩ := List.mem_map.1 hk
  trivial

theorem within_linkTimerExpiry (h : t.within) : ∃ u, exec .linkTimerExpiry t = .next u ∧ u.within := by
  refine ⟨_, rfl, ?_⟩
  split
  · exact within_take (t := (t.modLink _).post _ _ _) h _ (linkActionTasks_figures _)
  · exact h

theorem within_replySent (h : t.within) : ∃ u, exec .replySent t = .next u ∧ u.within := by
  refine ⟨_, rfl, ?_⟩
  split
  · exact h
  · split
    · exact h
    · exact h
    · exact h
    · dsimp only
      split
      · rw [within_modLink]; exact within_ite ((within_modSup t _).2 h) h
      · rw [within_modLink]; exact within_ite ((within_modSup t _).2 h) h

/-! ## Every command -/

/-- Every command keeps the setpoints and the targets within the highest ceiling. -/
theorem within_exec (i : Instr) (h : t.within) : ∃ u, exec i t = .next u ∧ u.within := by
  cases i with
  | frameReceived f => exact ⟨_, rfl, within_completeFrame ((within_hunt t).2 h) f⟩
  | linkByteReceived b =>
    refine ⟨_, rfl, ?_⟩
    split
    · split <;> exact h
    · exact within_insideByte h _
  | interByteGapTimeout => exact ⟨_, rfl, within_ite ((within_framingError _).2 h) h⟩
  | replySent => exact within_replySent h
  | linkTimerExpiry => exact within_linkTimerExpiry h
  | clockTick => exact ⟨_, rfl, h⟩
  | status g => exact ⟨_, rfl, within_takeRequest h _ _ _ _ fun u hu => hu⟩
  | notice g => exact ⟨_, rfl, within_takeRequest h _ _ _ _ fun u hu => within_readNotice hu⟩
  | time g v => exact ⟨_, rfl, within_takeRequest h _ _ _ _ fun u hu => hu⟩
  | linkset g a b => exact ⟨_, rfl, within_takeRequest h _ _ _ _ fun u hu => hu⟩
  | reset g a => exact ⟨_, rfl, within_takeRequest h _ _ _ _ fun u hu => within_takeReset hu _⟩
  | resume g => exact ⟨_, rfl, within_takeRequest h _ _ _ _ fun u hu => within_resume hu⟩
  | actset g a b => exact ⟨_, rfl, within_takeRequest h _ _ _ _ fun u hu => within_actset hu a _⟩
  | selftest g => exact ⟨_, rfl, within_takeRequest h _ _ _ _ fun u hu => within_selftest hu⟩
  | cfgwrite g a b c v => exact ⟨_, rfl, within_takeRequest h _ _ _ _ fun u hu => within_writeConfigItem hu _ _ _ v⟩
  | cfgread g a b c => exact ⟨_, rfl, within_takeRequest h _ _ _ _ fun u hu => within_readConfig hu _ _ _⟩
  | cfgsave g => exact ⟨_, rfl, within_takeRequest h _ _ _ _ fun u hu => hu⟩
  | tariffWrite g a v w => exact ⟨_, rfl, within_takeRequest h _ _ _ _ fun u hu => hu⟩
  | authorize g a =>
    refine ⟨_, rfl, within_takeRequest h _ _ _ _ fun u hu => ?_⟩
    split
    · exact within_authorize hu _ a
    · exact hu
  | cancel g a => exact ⟨_, rfl, within_takeRequest h _ _ _ _ (within_ownerOf a _ fun d u hu => within_cancel hu d)⟩
  | stop g a =>
    exact ⟨_, rfl, within_takeRequest h _ _ _ _ (within_broadcastOwner a _ fun d u hu => within_endFill hu d _)⟩
  | openDispenser g a =>
    exact ⟨_, rfl, within_takeRequest h _ _ _ _
      (within_broadcastOwner a _ fun d u hu => within_modDisp_fill hu d _ takeOpen_fill)⟩
  | closeDispenser g a =>
    exact ⟨_, rfl, within_takeRequest h _ _ _ _
      (within_broadcastOwner a _ fun d u hu => within_modDisp_fill hu d _ takeClose_fill)⟩
  | clear g a => exact ⟨_, rfl, within_takeRequest h _ _ _ _ (within_ownerOf a _ fun d u hu => within_clear hu d)⟩
  | readdisp g a =>
    refine ⟨_, rfl, within_takeRequest h _ _ _ _ fun u hu => ?_⟩
    split
    · exact hu
    · exact within_ownerOf a _ (fun d u hu => hu) u hu
  | refill g a p =>
    exact ⟨_, rfl, within_takeRequest h _ _ _ _ (within_ownerOf a _ fun b u hu => within_takeRefill hu b _)⟩
  | isolate g a =>
    exact ⟨_, rfl, within_takeRequest h _ _ _ _
      (within_ownerOf a _ fun b u hu => within_take hu _ (by simp [Task.figuresWithin]))⟩
  | restore g a =>
    exact ⟨_, rfl, within_takeRequest h _ _ _ _ (within_ownerOf a _ fun b u hu => within_restoreBank hu b)⟩
  | compressorOn g => exact ⟨_, rfl, within_takeRequest h _ _ _ _ fun u hu => within_compressorOn hu⟩
  | compressorOff g => exact ⟨_, rfl, within_takeRequest h _ _ _ _ fun u hu => within_compressorOff hu⟩
  | readbank g a => exact ⟨_, rfl, within_takeRequest h _ _ _ _ (within_ownerOf a _ fun b u hu => hu)⟩
  | readprecool g => exact ⟨_, rfl, within_takeRequest h _ _ _ _ fun u hu => hu⟩
  | lognext g => exact ⟨_, rfl, within_takeRequest h _ _ _ _ fun u hu => hu⟩
  | logget g n => exact ⟨_, rfl, within_takeRequest h _ _ _ _ fun u hu => hu⟩
  | settle g n => exact ⟨_, rfl, within_takeRequest h _ _ _ _ fun u hu => within_settle hu _⟩
  | calOpen g => exact ⟨_, rfl, within_takeRequest h _ _ _ _ fun u hu => within_calOpen hu⟩
  | calWrite g a k =>
    exact ⟨_, rfl, within_takeRequest h _ _ _ _ (within_ownerOf a _ fun d u hu => within_calWrite hu d _)⟩
  | calClose g => exact ⟨_, rfl, within_takeRequest h _ _ _ _ fun u hu => within_calClose hu⟩
  | calRead g => exact ⟨_, rfl, within_takeRequest h _ _ _ _ fun u hu => hu⟩
  | readstats g a b => exact ⟨_, rfl, within_takeRequest h _ _ _ _ fun u hu => within_takeStats hu _ _⟩
  | cfgsaveStoreComplete =>
    refine ⟨_, rfl, ?_⟩
    split <;> exact h
  | calCloseStoreComplete =>
    refine ⟨_, rfl, ?_⟩
    split <;> exact h
  | checkpointStoreComplete d =>
    refine ⟨_, rfl, ?_⟩
    split
    · exact h
    · split <;> exact h
  | logEntryStoreComplete =>
    refine ⟨_, rfl, ?_⟩
    split
    · exact h
    · dsimp only
      split
      · rw [within_sendReply]; exact within_completeCreation ((within_modLog t _).2 h) _
      · exact h
  | logRecoveryStoreComplete =>
    refine ⟨_, rfl, ?_⟩
    split
    · exact h
    · exact within_recoverNext ((within_modLog t _).2 h)
  | analogSample c i =>
    refine ⟨_, rfl, ?_⟩
    split
    · exact h
    · exact within_handSample (t := t.setChan c _) h c
  | channelHoldExpiry c => exact ⟨_, rfl, within_ite (within_failChannel h c _ _) h⟩
  | meterPulse d => exact within_meterPulse h d
  | switchLevelChange i l => exact ⟨_, rfl, by cases i <;> exact h⟩
  | debounceExpiry w => exact within_debounceExpiry h w
  | valveFeedbackSettled v => exact within_valveFeedbackSettled h v
  | valveTravelExpiry v => exact ⟨_, rfl, within_ite (within_faultValve h v _) h⟩
  | compressorFeedbackSettled => exact ⟨_, rfl, within_ite (within_compareFeedback (within_modField h _ rfl)) h⟩
  | referenceSweepStep c i => exact ⟨_, rfl, within_ite (within_sweepStep h c i) h⟩
  | sweepValveWaitExpiry => exact ⟨_, rfl, within_ite (within_endSweep h) h⟩
  | bankWaitExpiry d =>
    refine ⟨_, rfl, ?_⟩
    split
    · exact within_take ((within_leaveWaitLists t d).2 h) _ (by simp [Task.figuresWithin])
    · exact h
  | drawWindowCheckExpiry b =>
    refine ⟨_, rfl, ?_⟩
    split
    · exact h
    · exact within_ite (within_take (t := t.modBank b _) h _ (mismatchTasks_figures _ _)) h
  | deferralTimerExpiry => exact ⟨_, rfl, within_ite (within_evalStart (t := t.modComp _) h) h⟩
  | spinUpExpiry =>
    exact ⟨_, rfl, within_ite (within_take (t := t.modComp _) h _ (by simp [Task.figuresWithin])) h⟩
  | progressTimerExpiry =>
    refine ⟨_, rfl, ?_⟩
    split
    · refine within_ite ?_ (within_settled ⟨within_of_compFrame h (compFrame_stall (CompFrame.refl t) _ _), ?_⟩)
      · exact h
      · simp [State.stall, Task.figuresWithin]
    · exact h
  | switchTimerExpiry =>
    refine ⟨_, rfl, ?_⟩
    split <;> exact h
  | runDownExpiry => exact ⟨_, rfl, within_ite (within_compareFeedback (t := t.modComp _) h) h⟩
  | restTimerExpiry => exact ⟨_, rfl, within_ite (within_evalStart (t := t.modComp _) h) h⟩
  | mismatchTimerExpiry =>
    refine ⟨_, rfl, within_ite (within_settled ⟨within_of_compFrame h (compFrame_compFault (CompFrame.refl t)), ?_⟩) h⟩
    simp [State.compFault, Task.figuresWithin]
  | thermalUpdate => exact within_thermalUpdate h
  | precoolWaitExpiry d => exact ⟨_, rfl, within_ite (within_endFill (within_leavePrecoolList h d) d _) h⟩
  | vehicleReportFrame d bs => exact within_vehicleReportFrame h d bs
  | freshnessTimerExpiry d =>
    exact ⟨_, rfl, within_ite
      (within_ite (within_take (t := t.modReceiver d _) h _ (by simp [Task.figuresWithin])) h) h⟩
  | authorizationTimerExpiry d | fillTimeExpiry d | overshootTimerExpiry d | haltTimerExpiry d =>
    exact ⟨_, rfl, within_timedEnd h d _ _⟩
  | pulseTimerExpiry d => exact ⟨_, rfl, within_ite (within_endPulse h d) h⟩
  | connectionSettleExpiry d =>
    refine ⟨_, rfl, within_ite ?_ h⟩
    split
    · exact within_ite (within_endFill h d _) (within_enterLeakCheck h d _)
    · exact within_endFill h d _
  | leakHoldExpiry d => exact ⟨_, rfl, within_ite (within_judgeLeak h d) h⟩
  | rampStep d => exact within_rampStep h d
  | endingSettleExpiry d => exact ⟨_, rfl, within_ite (within_finishEnding h d) h⟩
  | flowTimerExpiry => exact ⟨_, rfl, h⟩
  | powerOn => exact ⟨_, rfl, within_afterReset t _⟩
  | resetLine => exact ⟨_, rfl, within_afterReset t _⟩
  | stationReset => exact ⟨_, rfl, within_ite (within_afterReset t _) h⟩

/-- 100 ms change no setpoint and no target (Log 2). -/
theorem within_elapse (h : t.within) : t.elapse.within := by
  refine ⟨h.1, fun d f hf => h.2.1 d f ?_, fun w hw => ?_⟩
  · simpa [State.disp, State.elapse] using hf
  · obtain ⟨x, hx, rfl⟩ := List.mem_map.1 hw
    exact h.2.2 x hx

theorem step_within {s t : State} (hStep : step s = .next t) (h : s.within) : t.within :=
  step_keeps (R := fun s t => s.within → t.within) (fun _ => within_elapse)
    (fun i s u rest hExec (hs : s.within) => by
      obtain ⟨v, hv, hWithin⟩ := within_exec i (t := { s with pending := rest }) hs
      obtain rfl := Host.Outcome.next.inj (hExec.symm.trans hv)
      exact hWithin) hStep h

/-- Settles O58: `step_reserveFits` for the reserve, `step_within` for the setpoints and the targets. -/
theorem everyStepKeepsReserveAndSetpoints : Obligations.EveryStepKeepsReserveAndSetpoints :=
  ⟨fun _ _ hFits hStep => step_reserveFits hFits hStep,
    fun _ t hWithin hStep => (within_iff t).1 (step_within hStep ((within_iff _).2 hWithin))⟩

end Sys2Proof.Machine
end

section
/-!
PROOF. The step, and the station link's bytes, frames, replies and requests turned away (O1, O2, O4 to O8, O10, O14).
-/

namespace Sys2Proof.Machine

/-! ## The step -/

/-- Settles O1. -/
theorem stepTakesTheFrontCommand : Obligations.StepTakesTheFrontCommand := fun _ _ _ => rfl

/-- Settles O2: `State.elapse` written out. -/
theorem anEmptyQueueLets100MsPass : Obligations.AnEmptyQueueLets100MsPass := by
  intro s hEmpty
  have hStep : step s = .next s.elapse := by
    unfold step
    split
    · rfl
    · next hPending => cases hEmpty.symm.trans hPending
  exact hStep.trans rfl

/-! ## Bytes (R1, R2) -/

/-- The receiver inside a frame, `bs` taken and the gap timer started. -/
def State.inside (s : State) (bs : List Byte) : State := s.modLink fun l => { l with receiver := .inside bs, gap := some 50 }

theorem insideByte_short (s : State) {bs : List Byte}
    (h : bs.length < 2 ∨ (fieldAt bs 0 2 ≤ 250 ∧ bs.length < fieldAt bs 0 2 + 6)) : s.insideByte bs = s.inside bs := by
  unfold State.insideByte
  dsimp only
  split
  · rfl
  · next hTwo =>
    obtain ⟨hLen, hShort⟩ := h.resolve_left hTwo
    rw [if_neg (Nat.not_lt.2 hLen), if_pos hShort]
    rfl

theorem insideByte_long (s : State) {bs : List Byte} (hTwo : 2 ≤ bs.length) (hLen : 250 < fieldAt bs 0 2) :
    s.insideByte bs = s.hunt.framingError := by
  unfold State.insideByte
  dsimp only
  rw [if_neg (Nat.not_lt.2 hTwo), if_pos hLen]

theorem insideByte_last (s : State) {bs : List Byte} (hTwo : 2 ≤ bs.length) (hLen : fieldAt bs 0 2 ≤ 250)
    (hAll : fieldAt bs 0 2 + 6 ≤ bs.length) : s.insideByte bs = s.hunt.completeFrame (frameOf bs) := by
  unfold State.insideByte
  dsimp only
  rw [if_neg (Nat.not_lt.2 hTwo), if_neg (Nat.not_lt.2 hLen), if_neg (Nat.not_lt.2 hAll)]

theorem exec_byte_hunting {s : State} (h : s.link.receiver = .hunting) (b : Byte) :
    exec (.linkByteReceived b) s = .next (if b = 0xA5 then s.inside [] else s) := by
  simp only [exec, execLinkByteReceived, h, State.inside]

theorem exec_byte_inside {s : State} {bs : List Byte} (h : s.link.receiver = .inside bs) (b : Byte) :
    exec (.linkByteReceived b) s = .next (s.insideByte (bs ++ [b])) := by
  simp only [exec, execLinkByteReceived, h]

/-- Settles O4: a case of `State.insideByte` each. -/
theorem theReceiverTakesBytes : Obligations.TheReceiverTakesBytes := by
  intro s b
  refine ⟨fun hHunt hb => ?_, fun hHunt => ?_, fun bs hIn hShort => ?_, fun bs hIn hTwo hLen => ?_, fun hGap => ?_⟩
  · rw [exec_byte_hunting hHunt, if_neg hb]
  · rw [exec_byte_hunting hHunt, if_pos rfl]
    rfl
  · rw [exec_byte_inside hIn, insideByte_short s hShort]
    rfl
  · rw [exec_byte_inside hIn, insideByte_long s hTwo hLen]
    rfl
  · exact congrArg Host.Outcome.next (if_pos hGap)

theorem fieldAt_length {n : Nat} (hn : n < 65536) (rest : List Byte) : fieldAt (beBytes 2 n ++ rest) 0 2 = n := by
  simp [fieldAt, beValue, beBytes]
  omega

theorem beValue_half (h : Half) : BitVec.ofNat 16 (beValue (beBytes 2 h.toNat)) = h := by
  have := h.isLt
  refine BitVec.eq_of_toNat_eq ?_
  simp [beValue, beBytes]
  omega

theorem frameBytes_length (f : Frame) : (frameBytes f).length = f.body.length + 6 := by
  simp [frameBytes, length_beBytes]
  omega

/-- The bytes of a frame spell it. -/
theorem frameOf_frameBytes (f : Frame) : frameOf (frameBytes f) = f := by
  have hDrop : (frameBytes f).drop 4 = f.body ++ beBytes 2 f.crc.toNat := rfl
  have hCrc : fieldAt (frameBytes f) ((frameBytes f).length - 2) 2 = beValue (beBytes 2 f.crc.toNat) := by
    have hEnd : (frameBytes f).length - 2 = (beBytes 2 f.body.length ++ [f.kind, f.tag] ++ f.body).length := by
      simp [frameBytes, length_beBytes]
      omega
    rw [hEnd]
    unfold fieldAt frameBytes
    rw [List.drop_left]
    rfl
  unfold frameOf
  rw [hCrc, beValue_half, hDrop, frameBytes_length]
  simp [frameBytes, beBytes]

theorem hear_cons (s : State) (b : Byte) (bs : List Byte) :
    s.hear (b :: bs) = (s.after (.linkByteReceived b)).hear bs := rfl

theorem after_byte_inside (s : State) (bs : List Byte) (b : Byte) :
    (s.inside bs).after (.linkByteReceived b) = (s.inside bs).insideByte (bs ++ [b]) := by
  unfold State.after
  rw [exec_byte_inside rfl]

/-- The rest of a frame's bytes, heard inside it, complete it. -/
theorem hear_rest (s : State) {f : Frame} (hBody : f.body.length ≤ 250) :
    ∀ (rest bs : List Byte), bs ++ rest = frameBytes f → rest ≠ [] →
      (s.inside bs).hear rest = s.hunt.completeFrame f := by
  have hField : ∀ bs rest : List Byte, bs ++ rest = frameBytes f → 2 ≤ bs.length → fieldAt bs 0 2 = f.body.length := by
    intro bs rest h hTwo
    have hTake : (bs.drop 0).take 2 = ((frameBytes f).drop 0).take 2 := by
      rw [← h, List.drop_zero, List.drop_zero, List.take_append_of_le_length hTwo]
    have hAll := fieldAt_length (n := f.body.length) (by omega) ([f.kind, f.tag] ++ f.body ++ beBytes 2 f.crc.toNat)
    unfold fieldAt at hAll ⊢
    rw [hTake]
    simpa [frameBytes] using hAll
  intro rest
  induction rest with
  | nil => intro _ _ h; exact absurd rfl h
  | cons b rest ih =>
    intro bs h _
    have hSplit : (bs ++ [b]) ++ rest = frameBytes f := by rw [← h, List.append_assoc]; rfl
    have hLen : (bs ++ [b]).length + rest.length = f.body.length + 6 := by
      rw [← frameBytes_length, ← hSplit, List.length_append (bs := rest)]
    rw [hear_cons, after_byte_inside]
    by_cases hRest : rest = []
    · subst hRest
      have hTwo : 2 ≤ (bs ++ [b]).length := by simp only [List.length_nil] at hLen; omega
      have hAt := hField _ _ hSplit hTwo
      rw [insideByte_last _ hTwo (by omega) (by simp only [List.length_nil] at hLen; omega)]
      rw [List.append_nil] at hSplit
      rw [hSplit, frameOf_frameBytes]
      rfl
    · have hShort : (bs ++ [b]).length < 2 ∨
          (fieldAt (bs ++ [b]) 0 2 ≤ 250 ∧ (bs ++ [b]).length < fieldAt (bs ++ [b]) 0 2 + 6) := by
        rcases Nat.lt_or_ge (bs ++ [b]).length 2 with hTwo | hTwo
        · exact .inl hTwo
        · have hAt := hField _ _ hSplit hTwo
          have := List.length_pos_iff.2 hRest
          exact .inr ⟨by omega, by omega⟩
      rw [insideByte_short _ hShort]
      exact ih _ hSplit hRest

/-- Settles O5: `hear_rest` after the SYNC byte. -/
theorem bytesOfAFrameAreThatFrame : Obligations.BytesOfAFrameAreThatFrame := by
  intro f s hHunt hBody
  have hSync : s.after (.linkByteReceived 0xA5) = s.inside [] := by
    unfold State.after
    rw [exec_byte_hunting hHunt]
    rfl
  rw [hear_cons, hSync, hear_rest s hBody _ _ (List.nil_append _) (by simp [frameBytes, beBytes])]
  rfl

end Sys2Proof.Machine
end

section
/-!
PROOF. Frames checked and taken, replies sent, and requests that the link turns away or answers itself (O6, O7, O8, O10,
O14).
-/

namespace Sys2Proof.Machine

variable {s t : State}

/-! ## Frames (R2 to R4, R13) -/

theorem completeFrame_malformed (s : State) {f : Frame} (h : 250 < f.body.length ∨ ¬ crcAgrees f) :
    s.completeFrame f = s.framingError := by
  unfold State.completeFrame
  split
  · rfl
  · next hLen => exact if_pos (h.resolve_left hLen)

theorem completeFrame_wellFormed (s : State) {f : Frame} (hLen : f.body.length ≤ 250) (hCrc : crcAgrees f) :
    s.completeFrame f = s.takeFrame f.kind f.tag f.body := by
  unfold State.completeFrame
  rw [if_neg (Nat.not_lt.2 hLen)]
  exact if_neg (not_not_intro hCrc)

theorem takeFrame_passed {k g : Byte} {body : List Byte} (hb : s.link.buffer = none)
    (hc : s.superviseFrame.frameCheck k body = none) :
    s.takeFrame k g body = s.superviseFrame.holdRequest k g body .waiting := by
  unfold State.takeFrame
  simp only [superviseFrame_buffer, hb, hc]

theorem takeFrame_answered {k g : Byte} {body : List Byte} {a : Answer} (hb : s.link.buffer = none)
    (hc : s.superviseFrame.frameCheck k body = some a) :
    s.takeFrame k g body = (s.superviseFrame.holdRequest k g body .waiting).sendReply a := by
  unfold State.takeFrame
  simp only [superviseFrame_buffer, hb, hc]

theorem takeFrame_busy {k g : Byte} {body : List Byte} (hb : s.link.buffer ≠ none) :
    s.takeFrame k g body = s.superviseFrame.noteBusy k g := by
  obtain ⟨q, hq⟩ := Option.ne_none_iff_exists'.1 hb
  unfold State.takeFrame
  simp only [superviseFrame_buffer, hq]

theorem superviseFrame_note (s : State) : s.superviseFrame.link.note = s.link.note := by
  rcases superviseFrame_cases s with h | h <;> rw [h]
  rfl

theorem noteBusy_free {k g : Byte} (h : s.link.note = none) :
    s.noteBusy k g = s.modLink fun l => { l with note := some (k, g) } := by
  unfold State.noteBusy
  rw [h]

theorem noteBusy_full {k g : Byte} (h : s.link.note ≠ none) :
    s.noteBusy k g = s.modLink fun l => { l with overrun := min 65535 (l.overrun + 1) } := by
  obtain ⟨q, hq⟩ := Option.ne_none_iff_exists'.1 h
  unfold State.noteBusy
  rw [hq]
  rfl

theorem superviseFrame_off (h : s.link.supervision = .off) : s.superviseFrame = s := by
  unfold State.superviseFrame
  rw [h]

theorem superviseFrame_on (h : s.link.supervision ≠ .off) :
    s.superviseFrame = s.modLink fun l => { l with supervision := .watching, supTimer := seconds s.work.site.linkTimeout } := by
  unfold State.superviseFrame
  split
  · next hOff => exact absurd hOff h
  · rfl

theorem firstBad_none {cs : List (Nat × Bool)} (h : ∀ c ∈ cs, c.2 = true) : firstBad cs = none := by
  induction cs with
  | nil => rfl
  | cons c cs ih =>
    obtain ⟨i, good⟩ := c
    have hGood : good = true := h (i, good) List.mem_cons_self
    subst hGood
    exact ih fun c hc => h c (List.mem_cons_of_mem _ hc)

theorem firstBad_append {pre : List (Nat × Bool)} (h : ∀ c ∈ pre, c.2 = true) (rest : List (Nat × Bool)) :
    firstBad (pre ++ rest) = firstBad rest := by
  induction pre with
  | nil => rfl
  | cons c pre ih =>
    obtain ⟨i, good⟩ := c
    have hGood : good = true := h (i, good) List.mem_cons_self
    subst hGood
    exact ih fun c hc => h c (List.mem_cons_of_mem _ hc)

theorem frameCheck_unknown {k : Byte} {body : List Byte} (h : bodyLength k.toNat = none) :
    s.frameCheck k body = some (bareAnswer .unknownKind) := by
  unfold State.frameCheck
  rw [h]

section
variable {k : Byte} {body : List Byte} {n : Nat} (hn : bodyLength k.toNat = some n)
include hn

theorem frameCheck_badLength (h : body.length ≠ n) : s.frameCheck k body = some (bareAnswer .badLength) := by
  unfold State.frameCheck
  rw [hn]
  exact if_pos h

theorem frameCheck_starting (h : body.length = n) (hs : s.startingUp = true) (hk : k ≠ 0x01) :
    s.frameCheck k body = some (notNow .starting) := by
  have hStarting : (s.startingUp && decide (k ≠ 0x01)) = true := by simp only [hs, hk, ne_eq, not_false_eq_true, decide_true, Bool.and_self]
  unfold State.frameCheck
  rw [hn]
  dsimp only
  rw [if_neg (not_not_intro h), if_pos hStarting]

theorem frameCheck_fields (h : body.length = n) (hs : s.startingUp = false ∨ k = 0x01) :
    s.frameCheck k body = (firstBad (fieldChecks k.toNat body)).map badValue := by
  have hStarted : ¬ (s.startingUp && decide (k ≠ 0x01)) = true := by rcases hs with hs | rfl <;> simp [*]
  unfold State.frameCheck
  rw [hn]
  dsimp only
  rw [if_neg (not_not_intro h), if_neg hStarted]

end

/-- R6's table: every KIND with its body length. -/
theorem bodyLength_eq_lookup (n : Nat) : bodyLength n = List.lookup n
    ([(0x01, 0), (0x02, 0), (0x03, 4), (0x04, 2), (0x05, 1), (0x06, 0), (0x07, 2), (0x08, 0), (0x10, 7), (0x11, 3),
      (0x12, 0), (0x13, 9), (0x20, 14), (0x21, 1), (0x22, 1), (0x23, 1), (0x24, 1), (0x25, 1), (0x26, 1), (0x30, 2),
      (0x31, 1), (0x32, 1), (0x33, 0), (0x34, 0), (0x35, 1), (0x36, 0), (0x40, 0), (0x41, 4), (0x42, 4), (0x50, 0),
      (0x51, 3), (0x52, 0), (0x53, 0), (0x60, 2)] : List (Nat × Nat)) := by
  unfold bodyLength
  split
  case h_35 => exact (List.lookup_eq_none_iff.2 (by simp_all)).symm
  all_goals rfl

theorem hunt_note (s : State) : s.hunt.superviseFrame.link.note = s.link.note := superviseFrame_note _

/-- Settles O6: the frame's check, then each branch of taking it. -/
theorem aFrameIsCheckedAndTaken : Obligations.AFrameIsCheckedAndTaken := by
  refine ⟨fun f s => ⟨fun h => ?_, fun hLen hCrc hb => ⟨fun hc => ?_, fun a hc => ?_⟩,
    fun hLen hCrc hb => ⟨fun hNote => ?_, fun hNote => ?_⟩⟩, fun s => ⟨superviseFrame_off, fun h => ?_⟩,
    fun s k body => ⟨frameCheck_unknown, fun n hn => ⟨frameCheck_badLength hn, frameCheck_starting hn, fun h hs =>
      ⟨fun pre i post hSplit hPre => ?_, fun hAll => ?_⟩⟩⟩, fun k => bodyLength_eq_lookup _⟩
  · exact congrArg Host.Outcome.next (completeFrame_malformed _ h)
  · exact congrArg Host.Outcome.next ((completeFrame_wellFormed _ hLen hCrc).trans (takeFrame_passed (s := s.hunt) hb hc))
  · exact congrArg Host.Outcome.next ((completeFrame_wellFormed _ hLen hCrc).trans (takeFrame_answered (s := s.hunt) hb hc))
  · refine congrArg Host.Outcome.next ((completeFrame_wellFormed _ hLen hCrc).trans ?_)
    exact (takeFrame_busy (s := s.hunt) hb).trans (noteBusy_free ((hunt_note s).trans hNote))
  · refine congrArg Host.Outcome.next ((completeFrame_wellFormed _ hLen hCrc).trans ?_)
    exact (takeFrame_busy (s := s.hunt) hb).trans (noteBusy_full fun h => hNote ((hunt_note s).symm.trans h))
  · exact superviseFrame_on fun hOff => by rcases h with h | h <;> cases hOff.symm.trans h
  · rw [frameCheck_fields hn h hs, hSplit, firstBad_append hPre]
    rfl
  · rw [frameCheck_fields hn h hs, firstBad_none hAll]
    rfl

/-! ## Replies sent (R3 to R5) -/

theorem grantsReset_iff (r : Reply) : r.grantsReset = true ↔ r.kind = 0x85 ∧ r.result = .ok := by
  simp [Reply.grantsReset]

theorem beBytes_one (n : Nat) : beBytes 1 n = [BitVec.ofNat 8 n] := by simp [beBytes]

/-- Settles O7: the branches of REPLY_SENT, and the layouts of section 1.8. -/
theorem aReplySentEmptiesTheBuffer : Obligations.AReplySentEmptiesTheBuffer := by
  refine ⟨fun s q r hb => ⟨fun hPhase hNote hReset => ?_, fun hPhase hNote hKind hResult hAsked => ?_,
    fun k g hPhase hNote hReset => ?_, fun hPhase => ?_, fun hPhase => ?_⟩, fun r => ⟨rfl, ?_⟩, rfl, rfl, fun _ => rfl,
    fun rs => ?_, fun _ => rfl⟩
  · rw [← grantsReset_iff] at hReset
    simp [exec, execReplySent, hb, hPhase, hNote, hReset, State.modLink]
  · have hGrants := (grantsReset_iff r).2 ⟨hKind, hResult⟩
    simp [exec, execReplySent, hb, hPhase, hNote, hGrants, hAsked, State.modLink, State.modSup]
  · rw [← grantsReset_iff] at hReset
    simp [exec, execReplySent, hb, hPhase, hNote, hReset, State.modLink, State.reply, bareAnswer]
  · simp [exec, execReplySent, hb, hPhase, State.modLink]
  · rcases hPhase with hPhase | hPhase <;> simp [Link.transmits, hb, hPhase, Service.transmits]
  · simp [Reply.body, Reply.head, beBytes_one]
  · simp [ReplyData.body, resultBytes, beBytes_one]

/-! ## Requests turned away (R3, R4) -/

/-- Settles O8: `takeRequest_busy` and `takeRequest_checked` for every request's row. -/
theorem requestsAreTurnedAwayByTheLink : Obligations.RequestsAreTurnedAwayByTheLink := by
  refine ⟨fun i k g body s q hi hb hq => ?_, fun i k g body s hi hb => ?_⟩
  · obtain ⟨o, hRow⟩ := request_row i k g body hi
    rw [hRow, takeRequest_busy o hb hq]
    exact ⟨fun hNote => congrArg _ (noteBusy_free ((superviseFrame_note s).trans hNote)),
      fun hNote => congrArg _ (noteBusy_full fun h => hNote ((superviseFrame_note s).symm.trans h))⟩
  · obtain ⟨o, hRow⟩ := request_row i k g body hi
    refine ⟨fun a ha => ?_, fun hs hk => ?_⟩
    · rw [hRow, takeRequest_checked o hb ha]
    · rw [hRow, takeRequest_checked o hb (frameCheck_starting (request_bodyLength i k g body hi) rfl (by simpa using hs) hk)]
      rfl

/-! ## NOTICE and READSTATS (R8, R10, R16) -/

/-- Settles O10: NOTICE served by its owner, and the two cases of `Link.post`. -/
theorem noticesArePostedAndReturned : Obligations.NoticesArePostedAndReturned := by
  refine ⟨fun s u g h => ⟨fun n rest hn => ?_, fun hn => ?_⟩, fun l k c n => ⟨fun hl => if_pos hl, fun hl => ?_⟩⟩
  · have hRead : u.readNotice =
        (u.modLink fun l => { l with notices := rest, lost := false }, okData (.bytes (n.record u.link.lost))) := by
      unfold State.readNotice
      rw [hn]
    refine ⟨_, congrArg Host.Outcome.next (takeRequest_offered _ h rfl rfl), ?_⟩
    have hBuffer := Offers.buffer h
    rw [serveRequest_answering, hRead]
    exact ⟨rfl, replies_sendReply _ hBuffer⟩
  · have hRead : u.readNotice = (u, bareAnswer .nothing) := by
      unfold State.readNotice
      rw [hn]
    refine ⟨_, congrArg Host.Outcome.next (takeRequest_offered _ h rfl rfl), ?_⟩
    rw [serveRequest_answering, hRead]
    exact ⟨rfl, replies_sendReply _ (Offers.buffer h)⟩
  · exact if_neg (by omega)

/-- Settles O14: READSTATS served by its owner. -/
theorem readstatsReturnsAndClears : Obligations.ReadstatsReturnsAndClears := by
  refine fun s u g => ⟨fun h => ?_, fun d h => ?_, fun d h => ?_⟩
  · exact congrArg Host.Outcome.next (takeRequest_offered _ h rfl rfl)
  · refine congrArg Host.Outcome.next ((takeRequest_offered _ h rfl ?_).trans ?_)
    · cases d <;> rfl
    · cases d <;> rfl
  · refine congrArg Host.Outcome.next ((takeRequest_offered _ h rfl ?_).trans ?_)
    · cases d <;> rfl
    · cases d <;> rfl

end Sys2Proof.Machine
end

section
/-!
PROOF. The clock and supervision set, what the reading requests answer, and the state after reset (O11, O13, O60).
-/

namespace Sys2Proof.Machine

/-! ## The clock and supervision (R11 to R14, R62) -/

/-- A start moved with the clock keeps its age (R14, R62). -/
theorem startAge_moved (clock v x : Word) : startAge v (x + (v - clock)) = startAge clock x := by
  unfold startAge
  congr 1
  ring

theorem word_small_toInt {v : Word} {n : Nat} (h : v.toNat ≤ n) (hn : n < 2147483648) : v.toInt = v.toNat := by
  rw [BitVec.toInt_eq_toNat_of_lt]
  omega

/-- A CFGWRITE of the link timeout (R12, R188). -/
theorem writeConfigItem_linkTimeout (u : State) {v : Word} (h : v.toNat ≤ 255) :
    u.writeConfigItem 1 0 1 v =
      ((u.modSup fun x => { x with work := { u.work with site := { u.work.site with linkTimeout := v.toNat } } }
        ).restartSupervision, okAnswer) := by
  have hInt := word_small_toInt h (by decide)
  have hGood : firstBad (writeChecks 1 0 1 v) = none := by
    simp [writeChecks, valueRange, siteItem, natItem, within, between, indexGood, firstBad, hInt, h]
  have hWritten : writeConfig u.work 1 0 1 v =
      .inr { u.work with site := { u.work.site with linkTimeout := v.toNat } } := by
    simp [writeConfig, hGood, writeGroup, siteItem, writeItem, noRelation, natItem, hInt]
  unfold State.writeConfigItem
  rw [hWritten]
  rfl

theorem restartSupervision_eq (u : State) :
    u.restartSupervision = u.modLink fun l =>
      { l with
        supervision := if u.work.site.linkTimeout = 0 then .off else .watching,
        supTimer := if u.work.site.linkTimeout = 0 then none else some (u.work.site.linkTimeout * 1000) } := by
  unfold State.restartSupervision
  dsimp only
  by_cases h : u.work.site.linkTimeout = 0 <;> simp [h, seconds]

/-- Settles O11: the owners of TIME, LINKSET and CFGWRITE. -/
theorem theClockAndSupervisionAreSet : Obligations.TheClockAndSupervisionAreSet := by
  refine ⟨⟨fun s => rfl, fun s u g v h => ?_⟩, fun s u g a b h hb => ?_, fun s u g v hv h => ?_⟩
  · have hBuffer := Offers.buffer h
    refine ⟨_, congrArg Host.Outcome.next ((takeRequest_offered _ h rfl rfl).trans (serveRequest_answering u _)), rfl,
      replies_sendReply _ hBuffer, ?_⟩
    change (u.comp.ring.map _).map _ = _
    rw [List.map_map]
    exact List.map_congr_left fun x _ => startAge_moved u.link.clock v x
  · have hBuffer := Offers.buffer h
    have hChecks : firstBad (fieldChecks (0x04 : Byte).toNat [a, b]) = none := by
      simp [fieldChecks, fieldAt_second, between, firstBad, hb]
    have hAction : linkActionOf b.toNat = if b = 1 then .stop else .hold := by
      simp [linkActionOf, byte_eq_ofNat b 1 (by decide)]
    have hTimeout : a.toNat = 0 ↔ a = 0 := (byte_eq_ofNat a 0 (by decide)).symm
    refine ⟨_, congrArg Host.Outcome.next ((takeRequest_offered _ h rfl hChecks).trans (serveRequest_answering u _)),
      replies_sendReply (v := .waiting) _ ?_, ?_, ?_, ?_⟩
    all_goals dsimp only
    all_goals unfold State.linkset
    all_goals rw [restartSupervision_eq]
    · exact hBuffer
    · rw [← hAction]
      rfl
    · simp only [← hTimeout]
      rfl
    · rfl
  · have hBuffer := Offers.buffer h
    have hTimeout : v.toNat = 0 ↔ v = 0 := ⟨fun hv => BitVec.eq_of_toNat_eq hv, fun hv => hv ▸ rfl⟩
    have hRow := cfgwrite_offered h
    change execCfgwrite g 1 0 1 v s = .next ((u.writeConfigItem 1 0 1 v).1.sendReply (u.writeConfigItem 1 0 1 v).2) at hRow
    rw [writeConfigItem_linkTimeout u hv, restartSupervision_eq] at hRow
    refine ⟨_, hRow, ?_⟩
    refine ⟨replies_sendReply (v := .waiting) _ hBuffer, rfl, ?_, ?_⟩
    · simp only [← hTimeout]
      rfl
    · simp only [← hTimeout]
      rfl

/-! ## What the reading requests answer -/

theorem ringLeast_eq_min? (l : List Nat) : ringLeast l = l.min? := by
  cases l <;> rfl

/-- Settles O13: each owner reads; the reports are written out. -/
theorem readingChangesNothing : Obligations.ReadingChangesNothing := by
  refine ⟨fun s u g => ⟨fun h => ?_, fun d h => ?_, fun h => ?_, fun b h => ?_, fun h => ?_, fun h => ?_, fun h =>
    ⟨fun e he => ?_, fun hNone => ?_⟩, fun n h => ⟨fun e he => ?_, fun hNone => ?_⟩, fun a b c h =>
    ⟨fun n hn => ?_, fun v hn hv => ?_, fun hn hv => ?_⟩⟩, fun s => rfl, fun s d => ?_, fun s b => rfl, fun s => ?_⟩
  · exact congrArg Host.Outcome.next (takeRequest_offered _ h rfl rfl)
  · have hChecks : firstBad (fieldChecks (0x26 : Byte).toNat [Four.field d]) = none := by cases d <;> rfl
    refine congrArg Host.Outcome.next ((takeRequest_offered _ h rfl hChecks).trans ?_)
    have hField : Four.field d ≠ 0 := by cases d <;> decide
    rw [if_neg hField, serveRequest_ownerOf]
    rfl
  · exact congrArg Host.Outcome.next (takeRequest_offered _ h rfl rfl)
  · have hChecks : firstBad (fieldChecks (0x35 : Byte).toNat [Four.field b]) = none := by cases b <;> rfl
    exact congrArg Host.Outcome.next ((takeRequest_offered _ h rfl hChecks).trans (serveRequest_ownerOf u b _))
  · exact congrArg Host.Outcome.next (takeRequest_offered _ h rfl rfl)
  · exact congrArg Host.Outcome.next (takeRequest_offered _ h rfl rfl)
  · refine congrArg Host.Outcome.next ((takeRequest_offered _ h rfl rfl).trans ?_)
    rw [serveRequest_reading]
    simp only [State.nextClosed, he]
    rfl
  · refine congrArg Host.Outcome.next ((takeRequest_offered _ h rfl rfl).trans ?_)
    have hFind : u.log.ring.find? (fun e => decide (e.state = .closed)) = none := by simpa using hNone
    rw [serveRequest_reading]
    simp only [State.nextClosed, hFind]
    rfl
  · refine congrArg Host.Outcome.next ((takeRequest_offered _ h rfl rfl).trans ?_)
    rw [serveRequest_reading]
    simp only [State.getEntry, he]
    rfl
  · refine congrArg Host.Outcome.next ((takeRequest_offered _ h rfl rfl).trans ?_)
    have hFind : findEntry n.toNat u.log.ring = none := by simpa [findEntry] using hNone
    rw [serveRequest_reading]
    simp only [State.getEntry, hFind]
    rfl
  · refine (cfgread_offered h).trans ?_
    simp only [State.readConfig, hn]
    rfl
  · refine (cfgread_offered h).trans ?_
    simp only [State.readConfig, hn, hv]
    rfl
  · refine (cfgread_offered h).trans ?_
    simp only [State.readConfig, hn, hv]
    rfl
  · have hFinal : ∀ (x : Option FinalFigures) (y : Option Nat),
        (if x.isSome then none else y) = if x = none then y else none := by rintro (_ | _) _ <;> rfl
    have hBilled : ∀ (x : Option FinalFigures) (y : Option Nat),
        (x.map (·.billed)).or y = match x with
          | some x => some x.billed
          | none => y := by rintro (_ | _) _ <;> rfl
    simp only [State.dispReport, hFinal, hBilled, ringLeast_eq_min?]
    rfl
  · have hSum : (s.precool.table.toList.map fun x => x.elim 0 (·.reserved)).sum =
        (s.precool.table.get .one).elim 0 (·.reserved) + (s.precool.table.get .two).elim 0 (·.reserved) +
          (s.precool.table.get .three).elim 0 (·.reserved) + (s.precool.table.get .four).elim 0 (·.reserved) := by
      simp [Quad.toList, Quad.get, Nat.add_assoc]
    simp only [State.precoolReport, hSum]
    rfl

/-! ## The state after reset -/

/-- Settles O60. -/
theorem resetMeetsTheInvariants : Obligations.ResetMeetsTheInvariants := by
  have hAgrees : State.reset.meter.cal.agrees = true := by decide +kernel
  refine ⟨Nat.zero_le _, ⟨⟨List.Pairwise.nil, fun e he => ?_⟩, ⟨List.Pairwise.nil, fun e he => ?_⟩, fun c hc => ?_⟩,
    Nat.zero_le _, ⟨fun d => ?_, fun d f r hf => ?_, fun w hw => ?_⟩, ⟨hAgrees, fun r hr => ?_⟩, rfl, fun d => ?_,
    fun b => ?_, rfl, rfl, rfl, rfl, rfl⟩
  · cases he
  · cases he
  · cases hc
  · cases d <;> exact Nat.zero_le _
  · cases d <;> cases hf
  · cases hw
  · cases hr
  · cases d <;> rfl
  · cases b <;> rfl

end Sys2Proof.Machine
end

section
/-!
PROOF. The fields of a request out of their ranges (O9): the range of every item, and the checks of every body.
-/

namespace Sys2Proof.Machine

/-! ## The first field that fails -/

theorem between_eq_true {low high n : Nat} : between low high n = true ↔ low ≤ n ∧ n ≤ high := by simp [between]

theorem between_eq_false {low high n : Nat} : between low high n = false ↔ n < low ∨ high < n := by
  simp [between]
  omega

theorem firstBad_good {i : Nat} {good : Bool} {rest : List (Nat × Bool)} (h : good = true) :
    firstBad ((i, good) :: rest) = firstBad rest := by simp [firstBad, h]

theorem firstBad_bad {i : Nat} {good : Bool} {rest : List (Nat × Bool)} (h : good = false) :
    firstBad ((i, good) :: rest) = some i := by simp [firstBad, h]

/-- The first check written as a condition, the rest under its negation. -/
theorem firstBad_cons_eq {p : Prop} [Decidable p] {i : Nat} {good : Bool} {rest : List (Nat × Bool)} {r : Option Nat}
    (h : good = false ↔ p) (hRest : ¬p → firstBad rest = r) :
    firstBad ((i, good) :: rest) = if p then some i else r := by
  by_cases hp : p
  · rw [if_pos hp, firstBad_bad (h.2 hp)]
  · rw [if_neg hp, firstBad_good (by simpa using mt h.1 hp), hRest hp]

/-! ## The cascade order in its packed form (R37) -/

theorem field_ne_zero (d : Four) : Four.field d ≠ 0 := by cases d <;> decide

theorem namedFour_eq_some {b : Byte} {d : Four} : namedFour b = some d ↔ b = Four.field d := by
  refine ⟨fun h => ?_, fun h => h ▸ namedFour_field d⟩
  refine BitVec.eq_of_toNat_eq ?_
  unfold namedFour at h
  generalize b.toNat = n at h
  unfold Four.ofNat? at h
  split at h <;> cases h <;> rfl

theorem mapM_namedFour {bytes : List Byte} {bs : List Four} :
    bytes.mapM namedFour = some bs ↔ bytes = bs.map Four.field := by
  induction bytes generalizing bs with
  | nil => cases bs <;> simp
  | cons b bytes ih =>
    cases bs with
    | nil => simp [List.mapM_cons, Option.bind_eq_some_iff]
    | cons d bs => simp [List.mapM_cons, Option.bind_eq_some_iff, namedFour_eq_some, ih]

theorem takeWhile_fields (bs : List Four) (n : Nat) :
    (bs.map Four.field ++ List.replicate n 0).takeWhile (fun b => decide (b ≠ 0)) = bs.map Four.field := by
  induction bs with
  | nil => cases n <;> simp [List.replicate_succ]
  | cons d bs ih =>
    rw [List.map_cons, List.cons_append, List.takeWhile_cons_of_pos (p := fun b : Byte => decide (b ≠ 0))
      (decide_eq_true (field_ne_zero d)), ih]

theorem length_word4 (v : Word) : (word4 v).length = 4 := rfl

/-- A packed cascade order names its banks, in order, and nothing after them (R37). -/
theorem unpackCascade_eq_some {v : Word} {bs : List Four} :
    unpackCascade v = some bs ↔ bs ≠ [] ∧ word4 v = bs.map Four.field ++ List.replicate (4 - bs.length) 0 := by
  have hSplit := (List.takeWhile_append_dropWhile (p := fun b : Byte => decide (b ≠ 0)) (l := word4 v)).symm
  unfold unpackCascade
  dsimp only
  constructor
  · intro h
    split at h
    · cases h
    · next hOk =>
      rw [not_or] at hOk
      obtain ⟨hSome, hZero⟩ := hOk
      have hBanks := mapM_namedFour.1 h
      have hDrop : (word4 v).drop ((word4 v).takeWhile fun b => decide (b ≠ 0)).length = List.replicate (4 - bs.length) 0 := by
        refine List.eq_replicate_iff.2 ⟨?_, ?_⟩
        · rw [List.length_drop, hBanks, List.length_map, length_word4]
        · simpa using hZero
      refine ⟨fun hNil => hSome (by rw [hBanks, hNil]; rfl), ?_⟩
      have hAll := List.take_append_drop ((word4 v).takeWhile fun b => decide (b ≠ 0)).length (word4 v)
      rw [hDrop] at hAll
      rw [← hAll, ← hBanks]
      congr 1
      exact (List.prefix_iff_eq_take.1 (List.takeWhile_prefix _)).symm
  · rintro ⟨hSome, hBytes⟩
    rw [hBytes, takeWhile_fields]
    rw [if_neg]
    · exact mapM_namedFour.2 rfl
    · simp [hSome]

/-! ## The range of every item (R35, R37, R77, R95, R107, R139, R153, R188) -/

/-- The range that the tables give an item, on the numbers of its fields. -/
def ItemInRange (group index item : Nat) (v : Word) : Prop :=
  if group = 5 ∧ item = 1 then (if index ≤ 3 then 60 else 30) ≤ v.toInt ∧ v.toInt ≤ 1000
  else if group = 6 ∧ item = 4 then v.toInt = 0 ∨ v.toInt = 4 ∨ v.toInt = 8
  else if group = 6 ∧ item = 7 then v.toInt = 0 ∨ (5000 ≤ v.toInt ∧ v.toInt ≤ 87500)
  else if group = 6 ∧ item = 8 then v.toInt = 0 ∨ (80 ≤ v.toInt ∧ v.toInt ≤ 100)
  else if group = 3 ∧ item = 2 then
    ∃ bs : List Four, bs ≠ [] ∧ bs.Nodup ∧ word4 v = bs.map Four.field ++ List.replicate (4 - bs.length) 0
  else ∀ low high, (group, item, low, high) ∈ itemRanges → low ≤ v.toInt ∧ v.toInt ≤ high

/-- An item is held with the range that the tables give it. -/
def HasRange (group index item : Nat) (v : Word) : Prop :=
  ∃ good, valueRange group index item = some good ∧ (good v = true ↔ ItemInRange group index item v)

theorem within_eq_true {low high v : Int} : within low high v = true ↔ low ≤ v ∧ v ≤ high := by simp [within]

theorem hasRange_site {item : Nat} (h : 1 ≤ item ∧ item ≤ 23) (index : Nat) (v : Word) : HasRange 1 index item v := by
  obtain ⟨hLow, hHigh⟩ := h
  interval_cases item <;>
    exact ⟨_, rfl, by simp [natItem, boolItem, within_eq_true, ItemInRange, itemRanges]⟩

theorem hasRange_bank {item : Nat} (h : 1 ≤ item ∧ item ≤ 7) (index : Nat) (v : Word) : HasRange 2 index item v := by
  obtain ⟨hLow, hHigh⟩ := h
  interval_cases item <;> exact ⟨_, rfl, by simp [natItem, within_eq_true, ItemInRange, itemRanges]⟩

theorem hasRange_cascade (index : Nat) (v : Word) : HasRange 3 index 2 v := by
  refine ⟨_, rfl, ?_⟩
  have hRange : ItemInRange 3 index 2 v ↔ ∃ bs : List Four, bs ≠ [] ∧ bs.Nodup ∧
      word4 v = bs.map Four.field ++ List.replicate (4 - bs.length) 0 := by simp [ItemInRange]
  rw [hRange]
  constructor
  · intro h
    cases hUnpack : unpackCascade v with
    | none => rw [hUnpack] at h; cases h
    | some bs =>
      rw [hUnpack] at h
      obtain ⟨hSome, hBytes⟩ := unpackCascade_eq_some.1 hUnpack
      exact ⟨bs, hSome, of_decide_eq_true h, hBytes⟩
  · rintro ⟨bs, hSome, hNodup, hBytes⟩
    rw [unpackCascade_eq_some.2 ⟨hSome, hBytes⟩]
    exact decide_eq_true hNodup

theorem hasRange_disp {item : Nat} (h : 1 ≤ item ∧ item ≤ 3) (index : Nat) (v : Word) : HasRange 3 index item v := by
  obtain ⟨hLow, hHigh⟩ := h
  interval_cases item
  · exact ⟨_, rfl, by simp [within_eq_true, ItemInRange, itemRanges]⟩
  · exact hasRange_cascade index v
  · exact ⟨_, rfl, by simp [within_eq_true, ItemInRange, itemRanges]⟩

theorem hasRange_precool {item : Nat} (h : 1 ≤ item ∧ item ≤ 14) (index : Nat) (v : Word) : HasRange 4 index item v := by
  obtain ⟨hLow, hHigh⟩ := h
  interval_cases item <;> exact ⟨_, rfl, by simp [natItem, intItem, within_eq_true, ItemInRange, itemRanges]⟩

theorem hasRange_ramp {index item : Nat} (hi : 1 ≤ index ∧ index ≤ 7) (h : 1 ≤ item ∧ item ≤ 3) (v : Word) :
    HasRange 5 index item v := by
  obtain ⟨hLow, hHigh⟩ := h
  obtain ⟨hFirst, hLast⟩ := hi
  interval_cases item
  · interval_cases index <;> exact ⟨_, rfl, by simp [natItem, within_eq_true, ItemInRange, rMin]⟩
  · interval_cases index <;> exact ⟨_, rfl, by simp [natItem, within_eq_true, ItemInRange, itemRanges]⟩
  · interval_cases index <;> exact ⟨_, rfl, by simp [natItem, within_eq_true, ItemInRange, itemRanges]⟩

theorem hasRange_generic {item : Nat} (h : 6 ≤ item ∧ item ≤ 8) (v : Word) : HasRange 6 0 item v := by
  obtain ⟨hLow, hHigh⟩ := h
  interval_cases item <;> exact ⟨_, rfl, by simp [natItem, optItem, within_eq_true, ItemInRange, itemRanges]⟩

theorem hasRange_class {index item : Nat} (hi : index ≠ 0) (h : 1 ≤ item ∧ item ≤ 8) (v : Word) :
    HasRange 6 index item v := by
  have hRange : valueRange 6 index item = (classItem item).map fun x v => x.good v.toInt := if_neg hi
  obtain ⟨hLow, hHigh⟩ := h
  unfold HasRange
  rw [hRange]
  interval_cases item <;>
    exact ⟨_, rfl, by simp [natItem, boolItem, optItem, within_eq_true, ItemInRange, itemRanges]⟩

theorem hasRange_tariff {item : Nat} (h : 1 ≤ item ∧ item ≤ 2) (index : Nat) (v : Word) : HasRange 7 index item v := by
  obtain ⟨hLow, hHigh⟩ := h
  interval_cases item <;> exact ⟨_, rfl, by simp [natItem, within_eq_true, ItemInRange, itemRanges]⟩

theorem itemBad_eq_none {group index item : Nat} (h : itemBad group index item = none) :
    between 1 7 group = true ∧ indexGood group index = true ∧ between 1 (itemCount group) item = true := by
  simp only [itemBad, readChecks, firstBad] at h
  revert h
  cases between 1 7 group <;> cases indexGood group index <;> cases between 1 (itemCount group) item <;> simp

/-- Every item that its three fields name is held, but those that entry 0 of the class table lacks (R96, R188). -/
theorem hasRange {group index item : Nat} (h : itemBad group index item = none)
    (hEntry : ¬(group = 6 ∧ index = 0 ∧ item ≤ 5)) (v : Word) : HasRange group index item v := by
  obtain ⟨hGroup, hIndex, hItem⟩ := itemBad_eq_none h
  obtain ⟨hLow, hHigh⟩ := between_eq_true.1 hGroup
  have hRange := between_eq_true.1 hItem
  interval_cases group
  · exact hasRange_site hRange index v
  · exact hasRange_bank hRange index v
  · exact hasRange_disp hRange index v
  · exact hasRange_precool hRange index v
  · exact hasRange_ramp (between_eq_true.1 hIndex) hRange v
  · by_cases hi : index = 0
    · subst hi
      exact hasRange_generic ⟨by omega, hRange.2⟩ v
    · exact hasRange_class hi hRange v
  · exact hasRange_tariff hRange index v

end Sys2Proof.Machine
end

section
/-!
PROOF. The fields of a request out of their ranges are named (O9).
-/

namespace Sys2Proof.Machine

variable {s : State}

/-- The answer to a request whose field `n` is the first out of its range (R3 step 4). -/
def State.namesField (s : State) (k g : Byte) (body : List Byte) (n : Nat) : Result :=
  .next ((s.superviseFrame.holdRequest k g body .waiting).sendReply ⟨.badValue, n, .none⟩)

/-- A request whose first field out of its range is `n` is answered BAD_VALUE with that index (R3 step 4). -/
theorem exec_badField {i : Instr} {k g : Byte} {body : List Byte} {n : Nat} (hi : requestOf i = some (k, g, body))
    (hb : s.link.buffer = none) (hs : s.startingUp = false) (hf : firstBad (fieldChecks k.toNat body) = some n) :
    exec i s = s.namesField k g body n := by
  obtain ⟨o, hRow⟩ := request_row i k g body hi
  have hCheck : s.superviseFrame.frameCheck k body = some (badValue n) := by
    rw [frameCheck_fields (request_bodyLength i k g body hi) rfl (.inl (by simpa using hs)), hf]
    rfl
  rw [hRow, takeRequest_checked o hb hCheck]
  rfl

theorem byte_zero (a : Byte) : a = 0 ↔ a.toNat = 0 := byte_eq_ofNat a 0 (by decide)

theorem byte_one (a : Byte) : a = 1 ↔ a.toNat = 1 := byte_eq_ofNat a 1 (by decide)

/-- One field, and it is out of its range. -/
theorem firstBad_single {i low high n : Nat} (h : n < low ∨ high < n) : firstBad [(i, between low high n)] = some i :=
  firstBad_bad (between_eq_false.2 h)

/-- The second of two fields is the one out of its range. -/
theorem firstBad_second {i j low high n : Nat} {good : Bool} {rest : List (Nat × Bool)} (h : low ≤ n ∧ n ≤ high)
    (hBad : good = false) : firstBad ((i, between low high n) :: (j, good) :: rest) = some j :=
  (firstBad_good (between_eq_true.2 h)).trans (firstBad_bad hBad)

/-! ## AUTHORIZE (section 1.8) -/

/-- A field examined only where the selection uses it. -/
theorem usedRange_eq_false {used : Bool} {p : Prop} (h : used = true ↔ p) {low high n : Nat} :
    (!used || between low high n) = false ↔ p ∧ (n < low ∨ high < n) := by
  rw [← h, ← between_eq_false]
  cases used <;> simp

theorem usesEither {p q r : Prop} [Decidable p] [Decidable q] [Decidable r] :
    (decide p || (decide q && decide r)) = true ↔ p ∨ q ∧ r := by simp

theorem selectionField (a : AuthorizeBody) :
    fieldAt (AuthorizeBody.bytes a) 0 1 = a.disp.toNat ∧ fieldAt (AuthorizeBody.bytes a) 1 1 = a.tariff.toNat ∧
    fieldAt (AuthorizeBody.bytes a) 2 1 = a.limitKind.toNat ∧ fieldAt (AuthorizeBody.bytes a) 3 4 = a.limitValue.toNat ∧
    fieldAt (AuthorizeBody.bytes a) 7 1 = a.selection.toNat ∧ fieldAt (AuthorizeBody.bytes a) 8 1 = a.classNo.toNat ∧
    fieldAt (AuthorizeBody.bytes a) 9 1 = a.fallbackKind.toNat ∧
    fieldAt (AuthorizeBody.bytes a) 11 2 = a.capacity.toNat ∧ fieldAt (AuthorizeBody.bytes a) 13 1 = a.factor.toNat := by
  have hOne : ∀ b : Byte, beValue [b] = b.toNat := fun b => by simp [beValue]
  have hTwo : beValue (half2 a.capacity) = a.capacity.toNat := by
    have := a.capacity.isLt
    simp [beValue, half2, beBytes]
    omega
  exact ⟨hOne _, hOne _, hOne _, beValue_word4 _, hOne _, hOne _, hOne _, hTwo, hOne _⟩

/-- The first field of an AUTHORIZE that its range excludes (section 1.8). -/
theorem firstBad_authorize (x : AuthorizeBody) :
    firstBad (fieldChecks (0x20 : Byte).toNat (AuthorizeBody.bytes x)) =
      if x.disp = 0 ∨ 4 < x.disp.toNat then some 1
      else if 7 < x.tariff.toNat then some 2
      else if 2 < x.limitKind.toNat then some 3
      else if (x.limitKind = 0 ∧ x.limitValue.toNat ≠ 0) ∨
          (x.limitKind = 1 ∧ (x.limitValue.toNat = 0 ∨ 99999999 < x.limitValue.toNat)) ∨
          (x.limitKind = 2 ∧ (x.limitValue.toNat = 0 ∨ 100000 < x.limitValue.toNat)) then some 4
      else if 2 < x.selection.toNat then some 5
      else if (x.selection = 0 ∨ (x.selection = 2 ∧ x.fallbackKind = 0)) ∧ 15 < x.classNo.toNat then some 6
      else if x.selection = 2 ∧ 1 < x.fallbackKind.toNat then some 7
      else if (x.selection = 1 ∨ (x.selection = 2 ∧ x.fallbackKind = 1)) ∧
          (x.capacity.toNat < 100 ∨ 60000 < x.capacity.toNat) then some 9
      else if (x.selection = 1 ∨ (x.selection = 2 ∧ x.fallbackKind = 1)) ∧
          (x.factor.toNat < 25 ∨ 100 < x.factor.toNat) then some 10
      else none := by
  have two (b : Byte) : b = 2 ↔ b.toNat = 2 := byte_eq_ofNat b 2 (by decide)
  obtain ⟨h0, h1, h2, h3, h7, h8, h9, h11, h13⟩ := selectionField x
  change firstBad (authorizeChecks (AuthorizeBody.bytes x)) = _
  simp only [authorizeChecks, h0, h1, h2, h3, h7, h8, h9, h11, h13, byte_zero, byte_one, two]
  refine firstBad_cons_eq ?_ fun _ => firstBad_cons_eq ?_ fun _ => firstBad_cons_eq ?_ fun hKind =>
    firstBad_cons_eq ?_ fun _ => firstBad_cons_eq ?_ fun _ => firstBad_cons_eq ?_ fun _ => firstBad_cons_eq ?_ fun _ =>
    firstBad_cons_eq ?_ fun _ => firstBad_cons_eq ?_ fun _ => rfl
  · rw [between_eq_false]; omega
  · rw [between_eq_false]; omega
  · rw [between_eq_false]; omega
  · generalize x.limitKind.toNat = kind at hKind ⊢
    have hKinds : kind = 0 ∨ kind = 1 ∨ kind = 2 := by omega
    rcases hKinds with rfl | rfl | rfl
    · simp
    · simp [between_eq_false]
    · simp [between_eq_false]
  · rw [between_eq_false]; omega
  · exact (usedRange_eq_false usesEither).trans (by omega)
  · exact (usedRange_eq_false decide_eq_true_iff).trans (by omega)
  · exact usedRange_eq_false usesEither
  · exact usedRange_eq_false usesEither

/-! ## CFGREAD and CFGWRITE (R188) -/

/-- The first of the fields that fails to name an item (R96, R188). -/
theorem itemBad_eq (a b c : Byte) :
    itemBad a.toNat b.toNat c.toNat =
      if a = 0 ∨ 7 < a.toNat then some 1
      else if ((a = 1 ∨ a = 4) ∧ b ≠ 0) ∨ ((a = 2 ∨ a = 3) ∧ (b = 0 ∨ 4 < b.toNat)) ∨ (a = 5 ∧ (b = 0 ∨ 7 < b.toNat)) ∨
          (a = 6 ∧ 15 < b.toNat) ∨ (a = 7 ∧ 7 < b.toNat) then some 2
      else if c = 0 ∨ ([23, 7, 3, 14, 3, 8, 2] : List Nat).getD (a.toNat - 1) 0 < c.toNat then some 3 else none := by
  have h2 : a = 2 ↔ a.toNat = 2 := byte_eq_ofNat a 2 (by decide)
  have h3 : a = 3 ↔ a.toNat = 3 := byte_eq_ofNat a 3 (by decide)
  have h4 : a = 4 ↔ a.toNat = 4 := byte_eq_ofNat a 4 (by decide)
  have h5 : a = 5 ↔ a.toNat = 5 := byte_eq_ofNat a 5 (by decide)
  have h6 : a = 6 ↔ a.toNat = 6 := byte_eq_ofNat a 6 (by decide)
  have h7 : a = 7 ↔ a.toNat = 7 := byte_eq_ofNat a 7 (by decide)
  change firstBad (readChecks _ _ _) = _
  simp only [readChecks, ne_eq, byte_zero, byte_one, h2, h3, h4, h5, h6, h7]
  generalize a.toNat = group
  generalize b.toNat = index
  generalize c.toNat = item
  refine firstBad_cons_eq ?_ fun hGroup => firstBad_cons_eq ?_ fun _ => firstBad_cons_eq ?_ fun _ => rfl
  · rw [between_eq_false]; omega
  · have hGroups : 1 ≤ group ∧ group ≤ 7 := by omega
    obtain ⟨hLow, hHigh⟩ := hGroups
    interval_cases group <;> simp [indexGood, between_eq_false]
  · have hGroups : 1 ≤ group ∧ group ≤ 7 := by omega
    obtain ⟨hLow, hHigh⟩ := hGroups
    interval_cases group <;> simp [itemCount, between_eq_false]

/-- The range that the tables give the item that three bytes name. -/
theorem itemInRange_bytes (a b c : Byte) (v : Word) :
    ItemInRange a.toNat b.toNat c.toNat v ↔
      (if a = 5 ∧ c = 1 then (if b.toNat ≤ 3 then 60 else 30) ≤ v.toInt ∧ v.toInt ≤ 1000
        else if a = 6 ∧ c = 4 then v.toInt = 0 ∨ v.toInt = 4 ∨ v.toInt = 8
        else if a = 6 ∧ c = 7 then v.toInt = 0 ∨ (5000 ≤ v.toInt ∧ v.toInt ≤ 87500)
        else if a = 6 ∧ c = 8 then v.toInt = 0 ∨ (80 ≤ v.toInt ∧ v.toInt ≤ 100)
        else if a = 3 ∧ c = 2 then
          ∃ bs : List Four, bs ≠ [] ∧ bs.Nodup ∧ word4 v = bs.map Four.field ++ List.replicate (4 - bs.length) 0
        else ∀ low high, (a.toNat, c.toNat, low, high) ∈ itemRanges → low ≤ v.toInt ∧ v.toInt ≤ high) := by
  have h2 : c = 2 ↔ c.toNat = 2 := byte_eq_ofNat c 2 (by decide)
  have h3 : a = 3 ↔ a.toNat = 3 := byte_eq_ofNat a 3 (by decide)
  have h4 : c = 4 ↔ c.toNat = 4 := byte_eq_ofNat c 4 (by decide)
  have h5 : a = 5 ↔ a.toNat = 5 := byte_eq_ofNat a 5 (by decide)
  have h6 : a = 6 ↔ a.toNat = 6 := byte_eq_ofNat a 6 (by decide)
  have h7 : c = 7 ↔ c.toNat = 7 := byte_eq_ofNat c 7 (by decide)
  have h8 : c = 8 ↔ c.toNat = 8 := byte_eq_ofNat c 8 (by decide)
  simp only [h2, h3, h4, h5, h6, h7, h8, byte_one c]
  rfl

/-- What names no item fails a CFGREAD and a CFGWRITE at the same field (R188). -/
theorem exec_cfg_itemBad {g a b c : Byte} {v : Word} {n : Nat} (hb : s.link.buffer = none) (hs : s.startingUp = false)
    (h : itemBad a.toNat b.toNat c.toNat = some n) :
    exec (.cfgread g a b c) s = s.namesField 0x11 g [a, b, c] n ∧
      exec (.cfgwrite g a b c v) s = s.namesField 0x10 g ([a, b, c] ++ word4 v) n := by
  refine ⟨exec_badField rfl hb hs ?_, exec_badField rfl hb hs ?_⟩
  · rw [fieldChecks_cfgread]
    exact h
  · rw [fieldChecks_cfgwrite]
    exact writeChecks_of_itemBad v h

/-- The third and the fourth check of a CFGWRITE that names an item (R188). -/
theorem firstBad_writeChecks {group index item : Nat} (h : itemBad group index item = none) (v : Word) :
    firstBad (writeChecks group index item v) =
      firstBad [(3, (valueRange group index item).isSome), (4, (valueRange group index item).elim true fun good => good v)] := by
  obtain ⟨hGroup, hIndex, -⟩ := itemBad_eq_none h
  exact (firstBad_good hGroup).trans (firstBad_good hIndex)

/-- Entry 0 of the class table holds the last three items alone (R96). -/
theorem genericItem_none {item : Nat} (h : item ≤ 5) : genericItem item = none := by interval_cases item <;> rfl

/-- Settles O9: the checks of each body, and `exec_badField`. -/
theorem fieldsOutOfRangeAreNamed : Obligations.FieldsOutOfRangeAreNamed := by
  intro s g a b hb hs
  have hZero : a = 0 → a.toNat < 1 := fun h => by rw [h]; decide
  have hNone {p : Prop} : a = 0 ∨ p → a.toNat < 1 ∨ p := Or.imp_left hZero
  have hFirst : fieldAt [a, b] 0 1 = a.toNat := fieldAt_first a [b]
  have hSecond : fieldAt [a, b] 1 1 = b.toNat := fieldAt_second a b []
  have hOnly : fieldAt [a] 0 1 = a.toNat := fieldAt_first a []
  refine ⟨fun h => exec_badField rfl hb hs ?_, fun h => exec_badField rfl hb hs ?_, fun h => exec_badField rfl hb hs ?_,
    fun hLow hHigh h => exec_badField rfl hb hs ?_, fun h => exec_badField rfl hb hs ?_,
    fun hLow hHigh h => exec_badField rfl hb hs ?_, fun k hLow hHigh h => exec_badField rfl hb hs ?_,
    fun v w h => exec_badField rfl hb hs ?_, fun v w hCode h => exec_badField rfl hb hs ?_,
    fun v w hCode hHp h => exec_badField rfl hb hs ?_, fun h => exec_badField rfl hb hs ?_,
    fun hA h => exec_badField rfl hb hs ?_, fun hLow hHigh h => exec_badField rfl hb hs ?_, fun h => ?_, fun h => ?_,
    fun x => ?_, fun c v => ?_⟩
  case refine_1 =>
    change firstBad [(2, between 0 1 (fieldAt [a, b] 1 1))] = _
    rw [hSecond]
    exact firstBad_single (.inr h)
  case refine_2 =>
    change firstBad [(1, between 0 1 (fieldAt [a] 0 1))] = _
    rw [hOnly]
    exact firstBad_single (.inr h)
  case refine_3 =>
    change firstBad ((1, between 1 6 (fieldAt [a, b] 0 1)) :: _) = _
    rw [hFirst]
    exact firstBad_bad (between_eq_false.2 (hNone h))
  case refine_4 =>
    change firstBad [(1, between 1 6 (fieldAt [a, b] 0 1)),
      (2, between (if fieldAt [a, b] 0 1 = 1 then 1 else 0) 1 (fieldAt [a, b] 1 1))] = _
    rw [hFirst, hSecond]
    refine firstBad_second ⟨hLow, hHigh⟩ (between_eq_false.2 ?_)
    rcases h with h | ⟨hEsd, hOff⟩
    · exact .inr h
    · rw [hEsd, hOff]
      exact .inl (by decide)
  case refine_5 =>
    change firstBad ((1, between 1 4 (fieldAt [a, b] 0 1)) :: _) = _
    rw [hFirst]
    exact firstBad_bad (between_eq_false.2 (hNone h))
  case refine_6 =>
    change firstBad [(1, between 1 4 (fieldAt [a, b] 0 1)), (2, between 0 3 (fieldAt [a, b] 1 1))] = _
    rw [hFirst, hSecond]
    exact firstBad_second ⟨hLow, hHigh⟩ (between_eq_false.2 (.inr h))
  case refine_7 =>
    change firstBad [(1, between 1 4 (fieldAt (a :: half2 k) 0 1)), (2, between 1000 60000 (fieldAt (a :: half2 k) 1 2))] = _
    rw [fieldAt_first, fieldAt_half2_one]
    exact firstBad_second ⟨hLow, hHigh⟩ (between_eq_false.2 h)
  case refine_8 =>
    change firstBad ((1, between 0 7 (fieldAt (a :: (word4 v ++ word4 w)) 0 1)) :: _) = _
    rw [fieldAt_first]
    exact firstBad_bad (between_eq_false.2 (.inr h))
  case refine_9 =>
    change firstBad [(1, between 0 7 (fieldAt (a :: (word4 v ++ word4 w)) 0 1)),
      (2, between 0 999999 (fieldAt (a :: (word4 v ++ word4 w)) 1 4)), _] = _
    rw [fieldAt_first, fieldAt_word4_one]
    exact firstBad_second ⟨Nat.zero_le _, hCode⟩ (between_eq_false.2 (.inr h))
  case refine_10 =>
    change firstBad [(1, between 0 7 (fieldAt (a :: (word4 v ++ word4 w)) 0 1)),
      (2, between 0 999999 (fieldAt (a :: (word4 v ++ word4 w)) 1 4)),
      (3, between 0 999999 (fieldAt (a :: (word4 v ++ word4 w)) 5 4))] = _
    rw [fieldAt_first, fieldAt_word4_one, fieldAt_word4_five,
      firstBad_good (between_eq_true.2 ⟨Nat.zero_le _, hCode⟩)]
    exact firstBad_second ⟨Nat.zero_le _, hHp⟩ (between_eq_false.2 (.inr h))
  case refine_11 =>
    change firstBad ((1, between 0 2 (fieldAt [a, b] 0 1)) :: _) = _
    rw [hFirst]
    exact firstBad_bad (between_eq_false.2 (.inr h))
  case refine_12 =>
    subst hA
    change firstBad [(1, true), (2, decide (fieldAt [0, b] 1 1 = 0))] = _
    rw [hSecond, firstBad_good rfl]
    exact firstBad_bad (decide_eq_false fun hB => h ((byte_zero b).2 hB))
  case refine_13 =>
    change firstBad [(1, between 0 2 (fieldAt [a, b] 0 1)),
      (2, if fieldAt [a, b] 0 1 = 0 then decide (fieldAt [a, b] 1 1 = 0) else between 1 4 (fieldAt [a, b] 1 1))] = _
    rw [hFirst, hSecond, if_neg (by omega)]
    refine firstBad_second ⟨Nat.zero_le _, hHigh⟩ (between_eq_false.2 (h.imp_left fun hB => ?_))
    rw [hB]
    decide
  case refine_14 =>
    have hField : firstBad [(1, between 0 4 (fieldAt [a] 0 1))] = some 1 := by
      rw [hOnly]
      exact firstBad_single (.inr h)
    exact ⟨exec_badField rfl hb hs hField, exec_badField rfl hb hs hField, exec_badField rfl hb hs hField,
      exec_badField rfl hb hs hField⟩
  case refine_15 =>
    have hField : firstBad [(1, between 1 4 (fieldAt [a] 0 1))] = some 1 := by
      rw [hOnly]
      exact firstBad_single (hNone h)
    refine ⟨exec_badField rfl hb hs hField, exec_badField rfl hb hs hField, exec_badField rfl hb hs hField,
      exec_badField rfl hb hs hField, exec_badField rfl hb hs hField, fun k => exec_badField rfl hb hs ?_⟩
    change firstBad ((1, between 1 4 (fieldAt (a :: half2 k) 0 1)) :: _) = _
    rw [fieldAt_first]
    exact firstBad_bad (between_eq_false.2 (hNone h))
  case refine_16 =>
    have hFields := firstBad_authorize x
    refine ⟨fun n hn => exec_badField rfl hb hs (hFields.trans hn), fun hn => ?_⟩
    exact frameCheck_none rfl (.inl hs) (hFields.trans hn)
  case refine_17 =>
    have hItem := itemBad_eq a b c
    refine ⟨fun n hn => exec_cfg_itemBad hb hs (hItem.trans hn), fun hn => ?_⟩
    have hNamed := hItem.trans hn
    refine ⟨frameCheck_none rfl (.inl hs) ((congrArg firstBad (fieldChecks_cfgread a b c)).trans hNamed),
      fun hA hB hC => exec_badField rfl hb hs ?_, fun hEntry => ?_⟩
    · have hRange : valueRange a.toNat b.toNat c.toNat = none := by
        rw [hA, hB]
        change (genericItem c.toNat).map _ = none
        rw [genericItem_none hC]
        rfl
      rw [fieldChecks_cfgwrite, firstBad_writeChecks hNamed, hRange]
      rfl
    · have hEntryNum : ¬(a.toNat = 6 ∧ b.toNat = 0 ∧ c.toNat ≤ 5) := fun ⟨hA, hB, hC⟩ =>
        hEntry ⟨(byte_eq_ofNat a 6 (by decide)).2 hA, (byte_zero b).2 hB, hC⟩
      obtain ⟨good, hGood, hIff⟩ := hasRange hNamed hEntryNum v
      have hChecks : firstBad (fieldChecks (0x10 : Byte).toNat ([a, b, c] ++ word4 v)) = firstBad [(4, good v)] := by
        rw [fieldChecks_cfgwrite, firstBad_writeChecks hNamed, hGood]
        rfl
      rw [itemInRange_bytes] at hIff
      refine ⟨fun hOut => exec_badField rfl hb hs (hChecks.trans (firstBad_bad ?_)), fun hIn => ?_⟩
      · exact Bool.eq_false_iff.2 fun hTrue => hOut (hIff.1 hTrue)
      · exact frameCheck_none rfl (.inl hs) (hChecks.trans (firstBad_good (hIff.2 hIn)))

end Sys2Proof.Machine
end

section
/-!
PROOF. What a close and a checkpoint do to the log, and what an end cause does in each state of its dispenser: the
pre-start close (R110), the entry to ENDING (R129), and nothing.
-/

namespace Sys2Proof.Machine

variable {s t : State}

/-! ## Entries of the log -/

/-- An entry found in a ring whose entry `k` has changed, its number kept. -/
theorem findEntry_changeEntry {k : Nat} {f : LogEntry → LogEntry} (hf : ∀ e, e.number = k → (f e).number = k) (n : Nat)
    (ring : List LogEntry) :
    findEntry n (changeEntry k f ring) = (findEntry n ring).map fun e => if e.number = k then f e else e := by
  have hNumber : ((fun e : LogEntry => e.number == n) ∘ fun e => if e.number = k then f e else e) =
      fun e => e.number == n := by
    funext e
    by_cases he : e.number = k
    · simp [he, hf e he]
    · simp [he]
  unfold findEntry changeEntry
  rw [List.find?_map, hNumber]

theorem findEntry_changeEntry_same {n : Nat} {f : LogEntry → LogEntry} {e : LogEntry}
    (hf : ∀ e, e.number = n → (f e).number = n) {ring : List LogEntry} (he : findEntry n ring = some e) :
    findEntry n (changeEntry n f ring) = some (f e) := by
  rw [findEntry_changeEntry hf, he, Option.map_some, if_pos (findEntry_number he)]

theorem findEntry_changeEntry_other {n k : Nat} {f : LogEntry → LogEntry} (hf : ∀ e, e.number = k → (f e).number = k)
    (hnk : n ≠ k) (ring : List LogEntry) : findEntry n (changeEntry k f ring) = findEntry n ring := by
  rw [findEntry_changeEntry hf]
  cases he : findEntry n ring with
  | none => rfl
  | some e => rw [Option.map_some, if_neg fun h => hnk ((findEntry_number he).symm.trans h)]

theorem ownEntry_of_own {g : TransLog} {d : Four} {n : Nat} (h : g.own.get d = some n) :
    g.ownEntry d = findEntry n g.ring := by
  unfold TransLog.ownEntry
  rw [h]

theorem modOwn_of_own {g : TransLog} {d : Four} {n : Nat} (h : g.own.get d = some n) (f : LogEntry → LogEntry) :
    g.modOwn d f = { g with ring := changeEntry n f g.ring } := by
  unfold TransLog.modOwn
  rw [h]

theorem modOwn_own (g : TransLog) (d : Four) (f : LogEntry → LogEntry) : (g.modOwn d f).own = g.own := by
  unfold TransLog.modOwn
  split
  · rfl
  · split <;> rfl

/-! ## Closes and checkpoints change the log alone -/

theorem closeEntry_log (s : State) (d : Four) (f : LogEntry → LogEntry) :
    s.closeEntry d f = { s with log := (s.closeEntry d f).log } := by
  unfold State.closeEntry
  split <;> rfl

theorem checkpoint_log (s : State) (d : Four) : s.checkpoint d = { s with log := (s.checkpoint d).log } := by
  unfold State.checkpoint
  split <;> rfl

theorem testMarks_frame (s : State) : s.testMarks = { s with link := s.testMarks.link, log := s.testMarks.log } := by
  unfold State.testMarks
  dsimp only
  split <;> split <;> rfl

/-- The close of an own entry of the ring (R173). -/
theorem closeEntry_of_own {d : Four} {n : Nat} {e : LogEntry} (hOwn : s.log.own.get d = some n)
    (he : findEntry n s.log.ring = some e) (f : LogEntry → LogEntry) (hf : (f e).number = e.number) :
    (s.closeEntry d f).log.own.get d = none ∧
    findEntry n (s.closeEntry d f).log.ring =
      some { f e with
        state := .closed, endTime := s.link.clock, clockUnset := (f e).clockUnset || !s.link.clockSet } := by
  have hEntry := (ownEntry_of_own hOwn).trans he
  unfold State.closeEntry
  rw [hEntry]
  dsimp only [State.modLog_log]
  rw [modOwn_of_own hOwn]
  refine ⟨by simp, ?_⟩
  refine findEntry_changeEntry_same ?_ he
  exact fun _ _ => hf.trans (findEntry_number he)

/-- A close leaves the dispenser without an own entry, if it had one (R173). -/
theorem closeEntry_own {d : Four} (h : (s.log.ownEntry d).isSome = true) (f : LogEntry → LogEntry) :
    (s.closeEntry d f).log.own.get d = none := by
  obtain ⟨e, he⟩ := Option.isSome_iff_exists.1 h
  unfold State.closeEntry
  rw [he]
  simp

theorem closeEntry_own_other {d e : Four} (hde : e ≠ d) (f : LogEntry → LogEntry) :
    (s.closeEntry d f).log.own.get e = s.log.own.get e := by
  unfold State.closeEntry
  split
  · rfl
  · simp [modOwn_own, hde]

theorem checkpoint_own (s : State) (d : Four) : (s.checkpoint d).log.own = s.log.own := by
  unfold State.checkpoint
  split
  · rfl
  · exact modOwn_own _ _ _

/-! ## End causes by the state of the dispenser (R126) -/

/-- The dispenser as a pre-start close leaves it (R110). -/
def Dispenser.closedBeforeStart (p : Dispenser) : Dispenser :=
  { p with
    state := if p.closePending then .closed else .idle, closePending := false, captured := none,
    timers := { p.timers with auth := none } }

theorem quad_modify_modify {α : Type} (q : Quad α) (d : Four) (f g : α → α) :
    (q.modify d f).modify d g = q.modify d (g ∘ f) := by cases d <;> rfl

/-- The state that a pre-start close leaves (R110, R173): beside the dispenser's own record and its sale it closes the
entry and posts FILL_END. -/
theorem preStartClose_eq (s : State) (d : Four) (c : Cause) :
    s.preStartClose d c =
      { s with
        link := s.link.post .fillEnd (.dispenser d) c.code,
        disps := s.disps.modify d (·.closedBeforeStart),
        meter := { s.meter with recs := s.meter.recs.modify d fun m => { m with sale := none } },
        log := (s.closePreStart d c).log } := by
  have hClose : (s.modTimers d fun m => { m with auth := none }).closePreStart d c =
      (s.closePreStart d c).modTimers d fun m => { m with auth := none } := by
    unfold State.closePreStart State.closeEntry
    rw [State.modTimers_log]
    cases s.log.ownEntry d <;> rfl
  have hLog : (s.closePreStart d c) = { s with log := (s.closePreStart d c).log } := closeEntry_log _ _ _
  unfold State.preStartClose
  rw [hClose]
  generalize (s.closePreStart d c).log = g at hLog
  rw [hLog]
  unfold State.post State.modTimers State.modDisp State.modMeterRec State.modMeter State.modLink
  dsimp only
  rw [quad_modify_modify]
  rfl

theorem take_nil (s : State) : s.take [] = s := rfl

/-- An end cause in AUTHORIZED, for a cause that closes there (R110). -/
theorem endCause_authorized {d : Four} {c : Cause} (h : (s.disp d).state = .authorized) (hc : c.preStart = true) :
    s.endCause d c = (s.preStartClose d c, []) := by
  unfold State.endCause
  simp [h, hc, DispState.running]

theorem endCause_running {d : Four} (c : Cause) (h : (s.disp d).state.running = true) :
    s.endCause d c = s.enterEnding d c := if_pos h

theorem endCause_ignored {d : Four} {c : Cause} (h : (s.disp d).state.running = false)
    (hAuth : (s.disp d).state ≠ .authorized) : s.endCause d c = (s, []) := by
  unfold State.endCause
  simp [h, hAuth]

theorem runTasks_cons (n : Nat) (k : Task) (ks : List Task) (s : State) :
    State.runTasks (n + 1) (k :: ks) s = State.runTasks n ((s.doTask k).2 ++ ks) (s.doTask k).1 := rfl

theorem runTasks_nil (n : Nat) (s : State) : State.runTasks n [] s = s := by cases n <;> rfl

/-- A consequence with none of its own, then the rest of the agenda. -/
theorem runTasks_done {n : Nat} {k : Task} {ks : List Task} {u : State} (h : s.doTask k = (u, [])) :
    State.runTasks (n + 1) (k :: ks) s = State.runTasks n ks u := by
  rw [runTasks_cons, h]
  rfl

theorem take_single {k : Task} {u : State} (h : s.doTask k = (u, [])) : s.take [k] = u :=
  (runTasks_done (n := 999) h).trans (runTasks_nil _ _)

theorem endFill_authorized {d : Four} {c : Cause} (h : (s.disp d).state = .authorized) (hc : c.preStart = true) :
    s.endFill d c = s.preStartClose d c := take_single (endCause_authorized h hc)

theorem endFill_ignored {d : Four} {c : Cause} (h : (s.disp d).state.running = false)
    (hAuth : (s.disp d).state ≠ .authorized) : s.endFill d c = s := take_single (endCause_ignored h hAuth)

end Sys2Proof.Machine
end

section
/-!
PROOF. AUTHORIZE, the pre-start close, OPEN, CLOSE, CLEAR and the timers that end a fill (O39 to O42, O45).
-/

namespace Sys2Proof.Machine

variable {s u : State}

/-! ## Requests of one dispenser, and broadcasts (R7) -/

theorem serveRequest_answered {owner : Owner} {t : State} {a : Answer} (h : owner u = (t, some a)) :
    u.serveRequest owner = t.sendReply a := by
  unfold State.serveRequest
  rw [h]

theorem serveRequest_storing {owner : Owner} {t : State} (h : owner u = (t, none)) :
    u.serveRequest owner =
      t.modLink fun l => { l with buffer := l.buffer.map fun r => { r with phase := .storing } } := by
  unfold State.serveRequest
  rw [h]

theorem serveRequest_broadcastField (u : State) (d : Four) (f : Four → State → State × Answer) :
    u.serveRequest (broadcastOwner (Four.field d) f) = (f d u).1.sendReply (f d u).2 := by
  have hOwner : broadcastOwner (Four.field d) f = ownerOf (Four.field d) f := by
    funext v
    exact if_neg (field_ne_zero d)
  rw [hOwner, serveRequest_ownerOf]

/-- A request of one dispenser or of all, each of which answers OK. -/
theorem serveRequest_broadcastAll (u : State) (f : Four → State → State) :
    u.serveRequest (broadcastOwner 0 fun d t => (f d t, okAnswer)) =
      (f .four (f .three (f .two (f .one u)))).sendReply
        ⟨.ok, 0, .broadcast [(.ok, 0), (.ok, 0), (.ok, 0), (.ok, 0)]⟩ := rfl

theorem modDisp_all (u : State) (f : Dispenser → Dispenser) :
    (((u.modDisp .one f).modDisp .two f).modDisp .three f).modDisp .four f = { u with disps := u.disps.map f } := rfl

/-! ## The pre-start close (R110, R111, R127, R173) -/

theorem preStart_of_mem {c : Cause}
    (h : c ∈ [Cause.cancelled, .stationStop, .authTimeout, .linkLost, .shutdown, .reset]) : c.preStart = true := by
  simp only [List.mem_cons, List.not_mem_nil, or_false] at h
  rcases h with rfl | rfl | rfl | rfl | rfl | rfl <;> rfl

theorem disp_preStartClose (s : State) (d e : Four) (c : Cause) :
    (s.preStartClose d c).disp e = if e = d then (s.disp e).closedBeforeStart else s.disp e := by
  rw [preStartClose_eq]
  exact quad_get_modify _ _ _ _

theorem meterRec_preStartClose (s : State) (d e : Four) (c : Cause) :
    (s.preStartClose d c).meterRec e = if e = d then { s.meterRec e with sale := none } else s.meterRec e := by
  rw [preStartClose_eq]
  exact quad_get_modify _ _ _ _

theorem log_preStartClose (s : State) (d : Four) (c : Cause) : (s.preStartClose d c).log = (s.closePreStart d c).log := by
  rw [preStartClose_eq]

theorem link_preStartClose (s : State) (d : Four) (c : Cause) :
    (s.preStartClose d c).link = s.link.post .fillEnd (.dispenser d) c.code := by
  rw [preStartClose_eq]

theorem timedEnd_true (s : State) (d : Four) (c : Cause) : s.timedEnd d true c = s.endFill d c := if_pos rfl

/-- Settles O41: `preStartClose_eq`, and the rows that lead to it. -/
theorem preStartClosesLeaveNoFill : Obligations.PreStartClosesLeaveNoFill := by
  refine ⟨fun s d c n e hAuth hc hOwn he => ?_, fun s d c hRun hAuth => endFill_ignored hRun hAuth,
    fun s d hAuth hTimer => ?_, fun s u g d => ⟨fun h => ⟨fun hAuth => ?_, fun hAuth => ?_⟩, fun h => ?_⟩⟩
  · dsimp only
    obtain ⟨hNone, hEntry⟩ := closeEntry_of_own hOwn he (fun e => { e with cause := some c }) rfl
    rw [endFill_authorized hAuth (preStart_of_mem hc), disp_preStartClose, meterRec_preStartClose, log_preStartClose,
      if_pos rfl, if_pos rfl]
    refine ⟨rfl, rfl, rfl, rfl, rfl, hNone, hEntry, link_preStartClose s d c, fun x hx => ⟨?_, ?_⟩, ?_, ?_, ?_, ?_, ?_⟩
    · rw [disp_preStartClose, if_neg hx]
    · rw [meterRec_preStartClose, if_neg hx]
    all_goals rw [preStartClose_eq]
  · refine congrArg Host.Outcome.next ?_
    rw [hAuth, hTimer]
    exact timedEnd_true s d .authTimeout
  · have hChecks : firstBad (fieldChecks (0x21 : Byte).toNat [Four.field d]) = none := by cases d <;> rfl
    refine congrArg Host.Outcome.next ((takeRequest_offered _ h rfl hChecks).trans ?_)
    rw [serveRequest_ownerOf, endFill_authorized hAuth rfl]
    simp only [State.cancel, hAuth, if_true]
    rfl
  · have hChecks : firstBad (fieldChecks (0x21 : Byte).toNat [Four.field d]) = none := by cases d <;> rfl
    refine congrArg Host.Outcome.next ((takeRequest_offered _ h rfl hChecks).trans ?_)
    rw [serveRequest_ownerOf]
    simp only [State.cancel, hAuth, if_false]
    rfl
  · have hChecks : firstBad (fieldChecks (0x22 : Byte).toNat [Four.field d]) = none := by cases d <;> rfl
    exact congrArg Host.Outcome.next ((takeRequest_offered _ h rfl hChecks).trans (serveRequest_broadcastField u d _))

/-! ## OPEN, CLOSE, CLEAR (R131, R132) -/

theorem takeClose_eq (p : Dispenser) :
    p.takeClose =
      if p.state = .idle then { p with state := .closed, closePending := false }
      else if p.state = .closed then p else { p with closePending := true } := by
  unfold Dispenser.takeClose
  split
  · next h => rw [if_pos h]
  · next h => rw [if_neg (by simp [h]), if_pos h]
  · next hIdle hClosed => rw [if_neg hIdle, if_neg hClosed]

/-- Settles O42: each dispenser takes the request by itself. -/
theorem dispensersAreOpenedClosedAndCleared : Obligations.DispensersAreOpenedClosedAndCleared := by
  intro s u g d
  have hOpen : firstBad (fieldChecks (0x23 : Byte).toNat [Four.field d]) = none := by cases d <;> rfl
  have hClose : firstBad (fieldChecks (0x24 : Byte).toNat [Four.field d]) = none := by cases d <;> rfl
  have hClear : firstBad (fieldChecks (0x25 : Byte).toNat [Four.field d]) = none := by cases d <;> rfl
  have hTake : Dispenser.takeClose = fun p =>
      if p.state = .idle then { p with state := .closed, closePending := false }
      else if p.state = .closed then p else { p with closePending := true } := funext takeClose_eq
  refine ⟨fun h => ?_, fun h => ?_, fun h => ?_, fun h => ?_, fun h => ?_, fun h =>
    ⟨fun hFault => ?_, fun hFault hOut => ?_, fun hFault hIn => ?_⟩⟩
  · exact congrArg Host.Outcome.next ((takeRequest_offered _ h rfl hOpen).trans (serveRequest_broadcastField u d _))
  · rw [← hTake]
    exact congrArg Host.Outcome.next ((takeRequest_offered _ h rfl hClose).trans (serveRequest_broadcastField u d _))
  · exact congrArg Host.Outcome.next ((takeRequest_offered _ h rfl rfl).trans
      (serveRequest_broadcastAll u fun d t => t.modDisp d (·.takeOpen)))
  · rw [← hTake]
    exact congrArg Host.Outcome.next ((takeRequest_offered _ h rfl rfl).trans
      (serveRequest_broadcastAll u fun d t => t.modDisp d (·.takeClose)))
  · exact congrArg Host.Outcome.next ((takeRequest_offered _ h rfl rfl).trans
      (serveRequest_broadcastAll u fun d t => t.endFill d .stationStop))
  · refine congrArg Host.Outcome.next ((takeRequest_offered _ h rfl hClear).trans ?_)
    rw [serveRequest_ownerOf]
    simp only [State.clear, hFault, if_false]
    rfl
  · refine congrArg Host.Outcome.next ((takeRequest_offered _ h rfl hClear).trans ?_)
    rw [serveRequest_ownerOf]
    simp only [State.clear, hFault, if_true, State.holderIn, hOut, decide_false, Bool.false_eq_true, if_false]
    rfl
  · refine congrArg Host.Outcome.next ((takeRequest_offered _ h rfl hClear).trans ?_)
    rw [serveRequest_ownerOf]
    simp only [State.clear, hFault, if_true, State.holderIn, hIn, decide_true]
    rfl

/-! ## Timers that end a fill (R87, R122, R126) -/

/-- Settles O45. -/
theorem timersEndFills : Obligations.TimersEndFills := by
  refine fun s d => ⟨fun hState hTimer => ?_, fun hState hTimer => ?_, fun hState hTimer => ?_, fun w hw hd hTimer => ?_⟩
  · refine congrArg Host.Outcome.next ?_
    rw [hState, hTimer]
    exact timedEnd_true s d .timeLimit
  · refine congrArg Host.Outcome.next ?_
    rw [hState, hTimer]
    exact timedEnd_true s d .control
  · refine congrArg Host.Outcome.next ?_
    rw [hState, hTimer]
    exact timedEnd_true s d .vehicleHalt
  · have hWaits : (s.precool.waitList.any fun w => decide (w.request.disp = d) && w.timer.isSome) = true :=
      List.any_eq_true.2 ⟨w, hw, by simp [hd, hTimer]⟩
    exact congrArg Host.Outcome.next (if_pos hWaits)

/-! ## AUTHORIZE (R97, R108, R109) -/

/-- A request of AUTHORIZE reaches its owner (R3, R108). -/
theorem exec_authorize {g : Byte} {a : AuthorizeBody} {d : Four} (h : s.Offers 0x20 g (AuthorizeBody.bytes a) u)
    (hChecks : firstBad (authorizeChecks (AuthorizeBody.bytes a)) = none) (hd : a.disp = Four.field d) :
    exec (.authorize g a) s = .next (u.serveRequest fun t => t.authorize d a) := by
  refine congrArg Host.Outcome.next ((takeRequest_offered _ h ?_ hChecks).trans ?_)
  · exact request_bodyLength (.authorize g a) 0x20 g _ rfl
  · simp only [hd, namedFour_field]

theorem checkCalibration_agrees (h : u.meter.cal.agrees = true) : u.checkCalibration = u := if_pos h

section
variable {d : Four} {a : AuthorizeBody}

theorem authorize_notIdle (h : (u.disp d).state ≠ .idle) : u.authorize d a = (u, some (notNow .state)) := if_pos h

variable (hIdle : (u.disp d).state = .idle)
include hIdle

theorem authorize_notReady (h : u.sup.station ≠ .ready) : u.authorize d a = (u, some (refusedFor .shutdown)) := by
  unfold State.authorize
  rw [if_neg (not_not_intro hIdle), if_pos h]

variable (hReady : u.sup.station = .ready)
include hReady

theorem authorize_calibrating (h : u.meter.session ≠ .none) :
    u.authorize d a = (u, some (refusedFor .calibrating)) := by
  unfold State.authorize
  rw [if_neg (not_not_intro hIdle), if_neg (not_not_intro hReady), if_pos h]

variable (hSession : u.meter.session = .none)
include hSession

theorem authorize_damaged (h : u.checkCalibration.sup.latches.metrology = true) :
    u.authorize d a = (u.checkCalibration, some (refusedFor .metrology)) := by
  unfold State.authorize
  rw [if_neg (not_not_intro hIdle), if_neg (not_not_intro hReady), if_neg (not_not_intro hSession)]
  exact if_pos h

variable (hAgrees : u.meter.cal.agrees = true)
include hAgrees

theorem authorize_latched (h : u.sup.latches.metrology = true) :
    u.authorize d a = (u, some (refusedFor .metrology)) := by
  have hChecked := checkCalibration_agrees hAgrees
  rw [authorize_damaged hIdle hReady hSession (by rw [hChecked]; exact h), hChecked]

variable (hLatch : u.sup.latches.metrology = false)
include hLatch

theorem authorize_refused {r : Reason} (h : u.laterConditions d a = .inl r) :
    u.authorize d a = (u, some (refusedFor r)) := by
  unfold State.authorize
  rw [if_neg (not_not_intro hIdle), if_neg (not_not_intro hReady), if_neg (not_not_intro hSession),
    checkCalibration_agrees hAgrees]
  simp only [hLatch, h]
  rfl

theorem authorize_accepted {v : Captured} {c : Sale} (h : u.laterConditions d a = .inr (v, c)) :
    u.authorize d a = (u.acceptAuthorize d a v c, none) := by
  unfold State.authorize
  rw [if_neg (not_not_intro hIdle), if_neg (not_not_intro hReady), if_neg (not_not_intro hSession),
    checkCalibration_agrees hAgrees]
  simp only [hLatch, h]
  rfl

end

/-- A calibration record that disagrees is marked damaged and latches METROLOGY_FAULT (R160, R182). -/
theorem checkCalibration_disagrees (h : u.meter.cal.agrees = false) :
    u.checkCalibration.meter.damaged = true ∧ u.checkCalibration.sup.latches.metrology = true ∧
      u.checkCalibration.link.buffer = u.link.buffer := by
  have hTake : u.checkCalibration = (u.modMeter fun m => { m with damaged := true }).take [.latch .metrology none] := by
    unfold State.checkCalibration
    rw [h]
    rfl
  have hLatched : Kept ((u.modMeter fun m => { m with damaged := true }).latch .metrology none).1 u.checkCalibration := by
    rw [hTake]
    exact kept_runTasks 999 _ _ (Kept.refl _)
  obtain ⟨hStill, -, -, hLatches, -⟩ := hLatched
  simp only [State.still, Prod.mk.injEq] at hStill
  refine ⟨?_, hLatches .metrology rfl, ?_⟩
  · simpa [State.latch] using hStill.2.2.2.1.2.2.1
  · simpa [State.latch] using hStill.2.1.2.2.1

/-! ### Conditions 5 to 9 of R108 -/

section
variable {d : Four} {a : AuthorizeBody}

theorem laterConditions_logFull (h : 64 ≤ u.log.ring.length) : u.laterConditions d a = .inl .logFull := if_pos h

variable (hRing : u.log.ring.length < 64)
include hRing

theorem laterConditions_numbers (h : 4294967295 ≤ u.log.counter) :
    u.laterConditions d a = .inl .numbersExhausted := by
  unfold State.laterConditions
  rw [if_neg (Nat.not_le.2 hRing)]
  exact if_pos h

variable (hCounter : u.log.counter < 4294967295)
include hCounter

theorem laterConditions_price (h : (u.saleOf d a).price = 0) : u.laterConditions d a = .inl .noPrice := by
  have hNumbers : ¬ top32 ≤ u.log.counter := Nat.not_le.2 hCounter
  unfold State.laterConditions
  rw [if_neg (Nat.not_le.2 hRing), if_neg hNumbers]
  exact if_pos h

variable (hPrice : (u.saleOf d a).price ≠ 0)
include hPrice

theorem laterConditions_vehicle {r : Reason} (h : captureVehicle u.work (u.dispCfg d).nozzle a = .inl r) :
    u.laterConditions d a = .inl r := by
  have hNumbers : ¬ top32 ≤ u.log.counter := Nat.not_le.2 hCounter
  unfold State.laterConditions
  simp only [if_neg (Nat.not_le.2 hRing), if_neg hNumbers, if_neg hPrice, h]

theorem laterConditions_limit {v : Captured} (h : captureVehicle u.work (u.dispCfg d).nozzle a = .inr v) :
    u.laterConditions d a =
      if (u.saleOf d a).mLim < 100 then .inl .limitTooSmall else .inr (v, u.saleOf d a) := by
  have hNumbers : ¬ top32 ≤ u.log.counter := Nat.not_le.2 hCounter
  unfold State.laterConditions
  simp only [if_neg (Nat.not_le.2 hRing), if_neg hNumbers, if_neg hPrice, h]

end

/-- Settles O40: the conditions of R108 in their order. -/
theorem anAuthorizeIsRefusedInOrder : Obligations.AnAuthorizeIsRefusedInOrder := by
  intro s u g a d h hChecks hd
  have hRow := exec_authorize h hChecks hd
  have hAnswered : ∀ {r : Answer}, u.authorize d a = (u, some r) → exec (.authorize g a) s = .next (u.sendReply r) := by
    intro r hr
    rw [hRow, serveRequest_answered hr]
  refine ⟨fun hState => hAnswered (authorize_notIdle hState), fun hIdle =>
    ⟨fun hState => hAnswered (authorize_notReady hIdle hState), fun hReady =>
    ⟨fun hState => hAnswered (authorize_calibrating hIdle hReady hState), fun hSession =>
    ⟨fun hDamaged => ?_, fun hAgrees =>
    ⟨fun hState => hAnswered (authorize_latched hIdle hReady hSession hAgrees hState), fun hLatch => ?_⟩⟩⟩⟩⟩
  · obtain ⟨hMark, hLatch, hBuffer⟩ := checkCalibration_disagrees hDamaged
    refine ⟨u.checkCalibration.sendReply (refusedFor .metrology), ?_, hLatch, hMark, ?_⟩
    · rw [hRow, serveRequest_answered (authorize_damaged hIdle hReady hSession hLatch)]
    · exact replies_sendReply _ (hBuffer.trans (Offers.buffer h))
  · have hRefused : ∀ {r : Reason}, u.laterConditions d a = .inl r →
        exec (.authorize g a) s = .next (u.sendReply (refusedFor r)) := fun hr =>
      hAnswered (authorize_refused hIdle hReady hSession hAgrees hLatch hr)
    refine ⟨fun hRing => hRefused (laterConditions_logFull hRing), fun hRing =>
      ⟨fun hCounter => hRefused (laterConditions_numbers hRing hCounter), fun hCounter =>
      ⟨fun hPrice => hRefused (laterConditions_price hRing hCounter hPrice), fun hPrice =>
      ⟨fun r hr => hRefused (laterConditions_vehicle hRing hCounter hPrice hr), fun v hv hLimit => hRefused (r := .limitTooSmall) ?_⟩⟩⟩⟩
    rw [laterConditions_limit hRing hCounter hPrice hv, if_pos hLimit]

/-- Settles O39: every condition of R108 holds, and the acceptance follows (R109). -/
theorem anAuthorizeIsAccepted : Obligations.AnAuthorizeIsAccepted := by
  intro s u g a d v h hChecks hd hIdle hReady hSession hAgrees hLatch hRing hCounter hPending c hPrice hv hLimit
  have hLater : u.laterConditions d a = .inr (v, c) := by
    rw [laterConditions_limit hRing hCounter hPrice hv, if_neg (Nat.not_lt.2 hLimit)]
  have hAccepted := authorize_accepted hIdle hReady hSession hAgrees hLatch hLater
  have hBuffer := Offers.buffer h
  refine ⟨_, newEntry u d a c, exec_authorize h hChecks hd, rfl, rfl, rfl, rfl, rfl, ?_⟩
  rw [serveRequest_storing hAccepted]
  have hState : u.acceptAuthorize d a v c =
      ((u.modMeterRec d fun m => { m with sale := some c }).beginCreation (newEntry u d a c)).modDisp d fun p =>
        { p with
          state := .authorized, captured := some v, lastCause := none,
          timers := { p.timers with auth := seconds u.work.site.authTimeout } } := by
    unfold State.acceptAuthorize
    dsimp only
    exact if_neg (by simp [hPending])
  rw [hState]
  refine ⟨rfl, ?_, ?_, ?_, fun e he => ⟨?_, ?_⟩, rfl, rfl, rfl, rfl, rfl⟩
  · exact (quad_get_modify _ _ _ _).trans (if_pos rfl)
  · exact (quad_get_modify _ _ _ _).trans (if_pos rfl)
  · simp [State.beginCreation, State.modLink, hBuffer]
  · exact (quad_get_modify _ _ _ _).trans (if_neg he)
  · exact (quad_get_modify _ _ _ _).trans (if_neg he)

end Sys2Proof.Machine
end

section
/-!
PROOF. The entry to ENDING of a dispenser that holds no bank (R129), what an order to end leaves of the other dispensers
(R128), and the expiry of the link timer (O12).
-/

namespace Sys2Proof.Machine

variable {s t : State}

/-! ## Own entries of the other dispensers -/

theorem findEntry_isSome_changeEntry {k : Nat} {f : LogEntry → LogEntry} (hf : ∀ e, e.number = k → (f e).number = k)
    (n : Nat) (ring : List LogEntry) : (findEntry n (changeEntry k f ring)).isSome = (findEntry n ring).isSome := by
  rw [findEntry_changeEntry hf, Option.isSome_map]

theorem creationOf_eq_some {g : TransLog} {d : Four} {c : Creation} :
    g.creationOf d = some c ↔ g.creation = some c ∧ c.entry.disp = d ∧ c.entry.state = .opened := by
  unfold TransLog.creationOf
  rw [Option.filter_eq_some_iff, decide_eq_true_iff]

/-- A dispenser's own entry replaced by one of its number: the other dispensers keep theirs. -/
theorem modOwn_ownEntry_isSome {g : TransLog} {d e : Four} {x y : LogEntry} (hx : g.ownEntry d = some x)
    (hy : y.number = x.number) (hde : e ≠ d) (h : (g.ownEntry e).isSome = true) :
    ((g.modOwn d fun _ => y).ownEntry e).isSome = true := by
  unfold TransLog.modOwn
  cases hOwn : g.own.get d with
  | some n =>
    rw [ownEntry_of_own hOwn] at hx
    have hNumber : y.number = n := hy.trans (findEntry_number hx)
    dsimp only
    unfold TransLog.ownEntry at h ⊢
    dsimp only
    split
    · next k hk =>
      rw [hk] at h
      rw [findEntry_isSome_changeEntry fun _ _ => hNumber]
      exact h
    · next hNone =>
      rw [hNone] at h
      exact h
  | none =>
    dsimp only
    cases hCreation : g.creationOf d with
    | none => exact h
    | some c =>
      obtain ⟨hCreated, hDisp, -⟩ := creationOf_eq_some.1 hCreation
      unfold TransLog.ownEntry at h ⊢
      dsimp only
      split
      · next k hk =>
        rw [hk] at h
        exact h
      · next hNone =>
        rw [hNone] at h
        obtain ⟨z, hz⟩ := Option.isSome_iff_exists.1 h
        obtain ⟨c', hc', -⟩ := Option.map_eq_some_iff.1 hz
        obtain ⟨hCreated', hDisp', -⟩ := creationOf_eq_some.1 hc'
        obtain rfl := Option.some.inj (hCreated.symm.trans hCreated')
        exact absurd (hDisp'.symm.trans hDisp) hde

theorem closeEntry_ownEntry_isSome {d e : Four} (hde : e ≠ d) (f : LogEntry → LogEntry) (hf : ∀ x, (f x).number = x.number)
    (h : (s.log.ownEntry e).isSome = true) : ((s.closeEntry d f).log.ownEntry e).isSome = true := by
  unfold State.closeEntry
  split
  · exact h
  · next x hx =>
    have hKept := modOwn_ownEntry_isSome (y := { f x with
      state := .closed, endTime := s.link.clock, clockUnset := (f x).clockUnset || !s.link.clockSet }) hx (hf x) hde h
    unfold TransLog.ownEntry TransLog.creationOf at hKept ⊢
    simpa [hde] using hKept

theorem storeImage_ownEntry (g : TransLog) (d e : Four) (x : LogEntry) :
    (g.storeImage d x).ownEntry e = g.ownEntry e := rfl

theorem checkpoint_ownEntry_isSome {d e : Four} (hde : e ≠ d) (h : (s.log.ownEntry e).isSome = true) :
    ((s.checkpoint d).log.ownEntry e).isSome = true := by
  unfold State.checkpoint
  split
  · exact h
  · next x hx => exact modOwn_ownEntry_isSome hx (checkpointed_number _ _ _) hde h

/-! ## The entry to ENDING (R129) -/

/-- The dispenser as the entry to ENDING takes it (R129 step 1). -/
def Dispenser.ended (c : Cause) (p : Dispenser) : Dispenser :=
  { p with
    state := .ending, fill := p.fill.map fun f => { f with cause := some c }, waitBank := false, overshoot := false,
    vehicleHalt := false, timers := noTimers }

/-- Steps 1 to 3 of the entry to ENDING (R129). -/
def State.entered (s : State) (d : Four) (c : Cause) : State :=
  ((((s.modDisp d (·.ended c)).leaveWaitLists d).leavePrecoolList d).closeAll (pathValves d)).setPcv d 0

theorem enterEnding_entered (s : State) (d : Four) (c : Cause) : (s.enterEnding d c).1 = s.entered d c := by
  unfold State.enterEnding
  dsimp only
  split <;> rfl

theorem enterEnding_none {d : Four} (h : s.banks.grant.get d = none) (c : Cause) :
    s.enterEnding d c = (s.entered d c, [.endingRest d]) := by
  unfold State.enterEnding
  dsimp only
  rw [h]
  rfl

theorem enterEnding_some {d b : Four} (h : s.banks.grant.get d = some b) (c : Cause) :
    s.enterEnding d c = (s.entered d c, [.release b d, .endingRest d]) := by
  unfold State.enterEnding
  dsimp only
  rw [h]
  rfl

/-- The parts that the entry to ENDING changes: its dispenser, the wait lists, the precool list and its path. -/
theorem entered_eq (s : State) (d : Four) (c : Cause) :
    s.entered d c =
      { s with
        disps := s.disps.modify d (·.ended c),
        banks := { s.banks with
          recs := s.banks.recs.map fun r => { r with waiters := r.waiters.filter fun w => decide (w ≠ d) },
          wait := s.banks.wait.set d none },
        precool := { s.precool with waitList := s.precool.waitList.filter fun w => decide (w.request.disp ≠ d) },
        field := { s.field with valves := (s.closeAll (pathValves d)).field.valves, pcv := s.field.pcv.set d 0 } } := by
  have hValves : (State.closeAll (((s.modDisp d (·.ended c)).leaveWaitLists d).leavePrecoolList d) (pathValves d)).field.valves =
      (s.closeAll (pathValves d)).field.valves := rfl
  unfold State.entered
  rw [closeAll_eq, hValves]
  rfl

/-- The fill's end taken whole where no bank is held: ENDING entered, and the rest of the entry (R129). -/
theorem endFill_running_none {d : Four} (hRun : (s.disp d).state.running = true) (hGrant : s.banks.grant.get d = none)
    (c : Cause) : s.endFill d c = (s.entered d c).endingRest d := by
  have hEntry : s.doTask (.endCause d c) = (s.entered d c, [.endingRest d]) :=
    (endCause_running c hRun).trans (enterEnding_none hGrant c)
  have hRest : (s.entered d c).doTask (.endingRest d) = ((s.entered d c).endingRest d, []) := rfl
  unfold State.endFill State.take agendaBound
  rw [runTasks_cons, hEntry, List.append_nil, runTasks_done hRest, runTasks_nil]

/-- The parts that the rest of the entry to ENDING changes (R129 steps 5 to 8). -/
theorem endingRest_eq (s : State) (d : Four) :
    s.endingRest d =
      { s with
        receivers := s.receivers.modify d fun r => { r with watch := .idle },
        precool := { s.precool with
          table := s.precool.table.modify d fun r => some (r.getD (Reservation.mk none 0 0 0)) },
        disps := s.disps.modify d fun p => { p with timers := { p.timers with ending := some 2000 } },
        banks := { s.banks with position := s.banks.position.set d none },
        log := (s.endingRest d).log } := by
  have hCheckpoint := checkpoint_log ((((s.modReceiver d fun r => { r with watch := .idle }).modPrecool fun p =>
    { p with table := p.table.modify d fun r => some (r.getD (Reservation.mk none 0 0 0)) }).modTimers d fun m =>
      { m with ending := some 2000 }).modBanks fun k => { k with position := k.position.set d none }) d
  exact hCheckpoint

theorem disp_entered (s : State) (d e : Four) (c : Cause) :
    (s.entered d c).disp e = if e = d then (s.disp e).ended c else s.disp e := by
  rw [entered_eq]
  exact quad_get_modify _ _ _ _

theorem disp_endingRest (s : State) (d e : Four) :
    (s.endingRest d).disp e =
      if e = d then { s.disp e with timers := { (s.disp e).timers with ending := some 2000 } } else s.disp e := by
  rw [endingRest_eq]
  exact quad_get_modify _ _ _ _

/-- What an end cause of a dispenser that holds no bank leaves of the rest of the controller (R128, R129). -/
structure EndsAlone (d : Four) (s t : State) : Prop where
  disps : ∀ e, e ≠ d → t.disp e = s.disp e
  meters : ∀ e, e ≠ d → t.meterRec e = s.meterRec e
  grants : t.banks.grant = s.banks.grant
  own : ∀ e, e ≠ d → t.log.own.get e = s.log.own.get e
  entries : ∀ e, e ≠ d → (s.log.ownEntry e).isSome = true → (t.log.ownEntry e).isSome = true

theorem EndsAlone.refl (d : Four) (s : State) : EndsAlone d s s :=
  ⟨fun _ _ => rfl, fun _ _ => rfl, rfl, fun _ _ => rfl, fun _ _ => id⟩

theorem endsAlone_preStartClose (s : State) (d : Four) (c : Cause) : EndsAlone d s (s.preStartClose d c) where
  disps e he := by rw [disp_preStartClose, if_neg he]
  meters e he := by rw [meterRec_preStartClose, if_neg he]
  grants := by rw [preStartClose_eq]
  own e he := by rw [log_preStartClose]; exact closeEntry_own_other he _
  entries e he h := by rw [log_preStartClose]; exact closeEntry_ownEntry_isSome he _ (fun _ => rfl) h

theorem endingRest_entered_log (s : State) (d : Four) (c : Cause) :
    ∃ u : State, u.log = s.log ∧ ((s.entered d c).endingRest d).log = (u.checkpoint d).log := by
  refine ⟨_, ?_, rfl⟩
  rw [entered_eq]
  rfl

theorem endsAlone_ended (s : State) (d : Four) (c : Cause) : EndsAlone d s ((s.entered d c).endingRest d) := by
  obtain ⟨u, hu, hLog⟩ := endingRest_entered_log s d c
  refine ⟨fun e he => ?_, fun e he => ?_, ?_, fun e he => ?_, fun e he h => ?_⟩
  · rw [disp_endingRest, if_neg he, disp_entered, if_neg he]
  · rw [endingRest_eq, entered_eq]
    rfl
  · rw [endingRest_eq, entered_eq]
  · rw [hLog, checkpoint_own, hu]
  · rw [hLog]
    exact checkpoint_ownEntry_isSome he (hu ▸ h)

/-- An order to end reaches a dispenser whose fill, where one runs, holds no bank. -/
def State.endsQuietly (s : State) (d : Four) : Prop := (s.disp d).state.running = false ∨ s.banks.grant.get d = none

/-- What an order to end does: the pre-start close in AUTHORIZED, the entry to ENDING in a running state, else nothing. -/
theorem endFill_cases {d : Four} {c : Cause} (h : s.endsQuietly d) (hc : c.preStart = true) :
    ((s.disp d).state = .authorized ∧ s.endFill d c = s.preStartClose d c) ∨
      ((s.disp d).state.running = true ∧ s.endFill d c = (s.entered d c).endingRest d) ∨
      ((s.disp d).state.running = false ∧ (s.disp d).state ≠ .authorized ∧ s.endFill d c = s) := by
  by_cases hAuth : (s.disp d).state = .authorized
  · exact .inl ⟨hAuth, endFill_authorized hAuth hc⟩
  · cases hRun : (s.disp d).state.running with
    | true => exact .inr (.inl ⟨rfl, endFill_running_none hRun (h.resolve_left (by simp [hRun])) c⟩)
    | false => exact .inr (.inr ⟨rfl, hAuth, endFill_ignored hRun hAuth⟩)

theorem endsAlone_endFill {d : Four} {c : Cause} (h : s.endsQuietly d) (hc : c.preStart = true) :
    EndsAlone d s (s.endFill d c) := by
  rcases endFill_cases h hc with ⟨-, he⟩ | ⟨-, he⟩ | ⟨-, -, he⟩
  · exact he ▸ endsAlone_preStartClose s d c
  · exact he ▸ endsAlone_ended s d c
  · rw [he]
    exact EndsAlone.refl d s

/-- An order to end at the front of the agenda takes at most two of its places. -/
theorem runTasks_endCause {d : Four} {c : Cause} (h : s.endsQuietly d) (hc : c.preStart = true) (n : Nat)
    (ks : List Task) :
    ∃ m, n ≤ m ∧ State.runTasks (n + 2) (.endCause d c :: ks) s = State.runTasks m ks (s.endFill d c) := by
  rcases endFill_cases h hc with ⟨hAuth, he⟩ | ⟨hRun, he⟩ | ⟨hRun, hAuth, he⟩
  · refine ⟨n + 1, Nat.le_succ n, ?_⟩
    rw [he]
    exact runTasks_done (endCause_authorized hAuth hc)
  · refine ⟨n, le_rfl, ?_⟩
    have hGrant := h.resolve_left (by simp [hRun])
    have hEntry : s.doTask (.endCause d c) = (s.entered d c, [.endingRest d]) :=
      (endCause_running c hRun).trans (enterEnding_none hGrant c)
    rw [he, runTasks_cons, hEntry]
    exact runTasks_done rfl
  · refine ⟨n + 1, Nat.le_succ n, ?_⟩
    rw [he]
    exact runTasks_done (endCause_ignored hRun hAuth)

end Sys2Proof.Machine
end

section
/-!
PROOF. The expiry of the link timer (O12): the orders to end reach the dispensers one after another, and each reaches
its own alone.
-/

namespace Sys2Proof.Machine

/-! ## The orders of the link action (R13, R128) -/

/-- Whether the link action reaches the dispenser as it stands: in AUTHORIZED, and under STOP in a running state. -/
def State.called (s : State) (d : Four) : Bool := decide ((s.disp d).state = .authorized)

/-- Whether the action is STOP. -/
def State.stops (s : State) : Bool := decide (s.work.site.linkAction = .stop)

/-- The order to `d`, as the state `s` at the expiry calls for it. -/
def State.linkOrder (s t : State) (d : Four) : State :=
  if s.called d || (s.stops && (s.disp d).state.running) then t.endFill d .linkLost else t

/-- The entry as a pre-start close with cause LINK_LOST leaves it (R173). -/
def LogEntry.lost (e : LogEntry) (clock : Word) (clockSet : Bool) : LogEntry :=
  { e with cause := some .linkLost, state := .closed, endTime := clock, clockUnset := e.clockUnset || !clockSet }

theorem lost_lost (e : LogEntry) (clock : Word) (clockSet : Bool) :
    (e.lost clock clockSet).lost clock clockSet = e.lost clock clockSet := by
  simp [LogEntry.lost]

theorem post_clock (l : Link) (k : NoticeKind) (c : Source) (n : Nat) :
    (l.post k c n).clock = l.clock ∧ (l.post k c n).clockSet = l.clockSet := by
  unfold Link.post
  split <;> exact ⟨rfl, rfl⟩

theorem post_supervision (l : Link) (k : NoticeKind) (c : Source) (n : Nat) :
    (l.post k c n).supervision = l.supervision ∧ (l.post k c n).supTimer = l.supTimer := by
  unfold Link.post
  split <;> exact ⟨rfl, rfl⟩

/-- What the orders to the dispensers `ds` have done since the expiry in `s` left `u`, and what they have not. -/
structure LinkOrdered (s u : State) (ds : List Four) (t : State) : Prop where
  link : t.link = (ds.filter s.called).foldl (fun l d => l.post .fillEnd (.dispenser d) 20) u.link
  grants : t.banks.grant = s.banks.grant
  waiting : ∀ d ∉ ds, t.disp d = s.disp d ∧ t.meterRec d = s.meterRec d ∧ t.log.own.get d = s.log.own.get d ∧
    ((s.log.ownEntry d).isSome = true → (t.log.ownEntry d).isSome = true)
  closed : ∀ d ∈ ds, (s.disp d).state = .authorized →
    t.disp d = (s.disp d).closedBeforeStart ∧ (t.meterRec d).sale = none ∧
      ((s.log.ownEntry d).isSome = true → t.log.own.get d = none)
  ended : ∀ d ∈ ds, s.stops = true → (s.disp d).state.running = true →
    (t.disp d).state = .ending ∧ ∀ f, (t.disp d).fill = some f → f.cause = some .linkLost
  spared : ∀ d ∈ ds, (s.disp d).state ≠ .authorized → s.stops = false ∨ (s.disp d).state.running = false →
    t.disp d = s.disp d ∧ t.meterRec d = s.meterRec d

/-- What the orders under HOLD leave, and the entries that they close. -/
structure HoldOrdered (s u : State) (ds : List Four) (t : State) : Prop where
  field : t.field = s.field
  banks : t.banks = s.banks
  comp : t.comp = s.comp
  precool : t.precool = s.precool
  clock : t.link.clock = s.link.clock ∧ t.link.clockSet = s.link.clockSet
  entries : ∀ n e, findEntry n s.log.ring = some e →
    findEntry n t.log.ring = some e ∨ findEntry n t.log.ring = some (e.lost s.link.clock s.link.clockSet)
  closed : ∀ d ∈ ds, ∀ n e, (s.disp d).state = .authorized → s.log.own.get d = some n →
    findEntry n s.log.ring = some e → findEntry n t.log.ring = some (e.lost s.link.clock s.link.clockSet)

/-- The state in which the orders begin: the expiry has touched the link alone. -/
theorem linkOrdered_nil {s u : State} (hu : u = { s with link := u.link }) : LinkOrdered s u [] u where
  link := rfl
  grants := by rw [hu]
  waiting d _ := by rw [hu]; exact ⟨rfl, rfl, rfl, id⟩
  closed d hd := by cases hd
  ended d hd := by cases hd
  spared d hd := by cases hd

section
variable {s u t : State} {ds : List Four} {d : Four}

theorem filter_concat_of_called (h : s.called d = true) : (ds ++ [d]).filter s.called = ds.filter s.called ++ [d] := by
  simp [h]

theorem filter_concat_of_not (h : s.called d = false) : (ds ++ [d]).filter s.called = ds.filter s.called := by
  simp [h]

/-- One more order (R128, Log 9). -/
theorem LinkOrdered.order (h : LinkOrdered s u ds t) (hd : d ∉ ds)
    (hQuiet : s.stops = false ∨ s.banks.grant.get d = none) : LinkOrdered s u (ds ++ [d]) (s.linkOrder t d) := by
  obtain ⟨hDisp, hMeter, hOwn, hEntry⟩ := h.waiting d hd
  have hSplit : ∀ e, e ∈ ds ++ [d] → e ∈ ds ∧ e ≠ d ∨ e = d := fun e he => by
    rcases List.mem_append.1 he with he | he
    · exact .inl ⟨he, fun hed => hd (hed ▸ he)⟩
    · exact .inr (List.mem_singleton.1 he)
  have hRest : ∀ {v : State}, EndsAlone d t v → ∀ e ∉ ds ++ [d], v.disp e = s.disp e ∧ v.meterRec e = s.meterRec e ∧
      v.log.own.get e = s.log.own.get e ∧
      ((s.log.ownEntry e).isSome = true → (v.log.ownEntry e).isSome = true) := fun hv e he => by
    rw [List.mem_append, List.mem_singleton, not_or] at he
    obtain ⟨hDs, hed⟩ := he
    obtain ⟨hDisp, hMeter, hOwn, hEntry⟩ := h.waiting e hDs
    exact ⟨(hv.disps e hed).trans hDisp, (hv.meters e hed).trans hMeter, (hv.own e hed).trans hOwn,
      fun hSome => hv.entries e hed (hEntry hSome)⟩
  by_cases hAuth : (s.disp d).state = .authorized
  · have hCalled : s.called d = true := decide_eq_true hAuth
    have hState : s.linkOrder t d = t.preStartClose d .linkLost := by
      unfold State.linkOrder
      rw [hCalled]
      exact endFill_authorized (hDisp ▸ hAuth) rfl
    have hAlone := endsAlone_preStartClose t d .linkLost
    rw [hState]
    refine ⟨?_, hAlone.grants.trans h.grants, hRest hAlone, fun e he hState => ?_, fun e he hStop hRun => ?_,
      fun e he hOther hSpared => ?_⟩
    · rw [link_preStartClose, filter_concat_of_called hCalled, List.foldl_append, h.link]
      rfl
    · rcases hSplit e he with ⟨he, hed⟩ | rfl
      · obtain ⟨h1, h2, h3⟩ := h.closed e he hState
        exact ⟨(hAlone.disps e hed).trans h1, (congrArg _ (hAlone.meters e hed)).trans h2,
          fun hSome => (hAlone.own e hed).trans (h3 hSome)⟩
      · refine ⟨?_, ?_, fun hSome => ?_⟩
        · rw [disp_preStartClose, if_pos rfl, hDisp]
        · rw [meterRec_preStartClose, if_pos rfl]
        · rw [log_preStartClose]
          exact closeEntry_own (hEntry hSome) _
    · rcases hSplit e he with ⟨he, hed⟩ | rfl
      · rw [hAlone.disps e hed]
        exact h.ended e he hStop hRun
      · rw [hAuth] at hRun
        cases hRun
    · rcases hSplit e he with ⟨he, hed⟩ | rfl
      · rw [hAlone.disps e hed, hAlone.meters e hed]
        exact h.spared e he hOther hSpared
      · exact absurd hAuth hOther
  · have hCalled : s.called d = false := decide_eq_false hAuth
    have hNotClosed : ∀ {v : State}, EndsAlone d t v → ∀ e ∈ ds ++ [d], (s.disp e).state = .authorized →
        v.disp e = (s.disp e).closedBeforeStart ∧ (v.meterRec e).sale = none ∧
          ((s.log.ownEntry e).isSome = true → v.log.own.get e = none) := fun hv e he hState => by
      rcases hSplit e he with ⟨he, hed⟩ | rfl
      · obtain ⟨h1, h2, h3⟩ := h.closed e he hState
        exact ⟨(hv.disps e hed).trans h1, (congrArg _ (hv.meters e hed)).trans h2,
          fun hSome => (hv.own e hed).trans (h3 hSome)⟩
      · exact absurd hState hAuth
    by_cases hEnds : s.stops = true ∧ (s.disp d).state.running = true
    · obtain ⟨hStop, hRun⟩ := hEnds
      have hGrant : t.banks.grant.get d = none := by
        rw [h.grants]
        exact hQuiet.resolve_left (by simp [hStop])
      have hState : s.linkOrder t d = (t.entered d .linkLost).endingRest d := by
        unfold State.linkOrder
        rw [hStop, hRun, hCalled]
        exact endFill_running_none (hDisp ▸ hRun) hGrant _
      have hAlone := endsAlone_ended t d .linkLost
      rw [hState]
      refine ⟨?_, hAlone.grants.trans h.grants, hRest hAlone, hNotClosed hAlone, fun e he hStop' hRun' => ?_,
        fun e he hOther hSpared => ?_⟩
      · rw [endingRest_eq, entered_eq, filter_concat_of_not hCalled]
        exact h.link
      · rcases hSplit e he with ⟨he, hed⟩ | rfl
        · rw [hAlone.disps e hed]
          exact h.ended e he hStop' hRun'
        · rw [disp_endingRest, if_pos rfl, disp_entered, if_pos rfl]
          refine ⟨rfl, fun f hf => ?_⟩
          obtain ⟨x, -, rfl⟩ := Option.map_eq_some_iff.1 hf
          rfl
      · rcases hSplit e he with ⟨he, hed⟩ | rfl
        · rw [hAlone.disps e hed, hAlone.meters e hed]
          exact h.spared e he hOther hSpared
        · rcases hSpared with hSpared | hSpared
          · rw [hStop] at hSpared; cases hSpared
          · rw [hRun] at hSpared; cases hSpared
    · have hState : s.linkOrder t d = t := by
        unfold State.linkOrder
        rw [hCalled, Bool.false_or]
        exact if_neg (by simpa using hEnds)
      have hAlone := EndsAlone.refl d t
      rw [hState]
      refine ⟨?_, h.grants, hRest hAlone, hNotClosed hAlone, fun e he hStop hRun => ?_, fun e he hOther hSpared => ?_⟩
      · rw [filter_concat_of_not hCalled]
        exact h.link
      · rcases hSplit e he with ⟨he, hed⟩ | rfl
        · exact h.ended e he hStop hRun
        · exact absurd ⟨hStop, hRun⟩ hEnds
      · rcases hSplit e he with ⟨he, hed⟩ | rfl
        · exact h.spared e he hOther hSpared
        · exact ⟨hDisp, hMeter⟩

end

/-- An entry of the ring through a close: it is the one closed, or as it was (R173). -/
theorem closeEntry_findEntry {s : State} (d : Four) (f : LogEntry → LogEntry) (hf : ∀ x, (f x).number = x.number) {n : Nat}
    {e : LogEntry} (he : findEntry n s.log.ring = some e) :
    findEntry n (s.closeEntry d f).log.ring = some e ∨
      findEntry n (s.closeEntry d f).log.ring = some { f e with
        state := .closed, endTime := s.link.clock, clockUnset := (f e).clockUnset || !s.link.clockSet } := by
  cases hOwn : s.log.own.get d with
  | some k =>
    cases hx : findEntry k s.log.ring with
    | none =>
      have hEntry := (ownEntry_of_own hOwn).trans hx
      unfold State.closeEntry
      rw [hEntry]
      exact .inl he
    | some x =>
      by_cases hnk : n = k
      · subst hnk
        obtain rfl := Option.some.inj (he.symm.trans hx)
        exact .inr (closeEntry_of_own hOwn he f (hf _)).2
      · have hEntry := (ownEntry_of_own hOwn).trans hx
        unfold State.closeEntry
        rw [hEntry]
        dsimp only [State.modLog_log]
        rw [modOwn_of_own hOwn]
        refine .inl ((findEntry_changeEntry_other ?_ hnk _).trans he)
        exact fun _ _ => (hf x).trans (findEntry_number hx)
  | none =>
    have hRing : ∀ g : LogEntry → LogEntry, (s.log.modOwn d g).ring = s.log.ring := fun g => by
      unfold TransLog.modOwn
      rw [hOwn]
      dsimp only
      split <;> rfl
    unfold State.closeEntry
    split
    · exact .inl he
    · dsimp only [State.modLog_log]
      rw [hRing]
      exact .inl he

/-- One more order under HOLD: a pre-start close or nothing (R13). -/
theorem HoldOrdered.order {s u t : State} {ds : List Four} {d : Four} (h : HoldOrdered s u ds t)
    (hOrdered : LinkOrdered s u ds t) (hd : d ∉ ds) (hHold : s.stops = false) :
    HoldOrdered s u (ds ++ [d]) (s.linkOrder t d) := by
  obtain ⟨hDisp, -, hOwn, -⟩ := hOrdered.waiting d hd
  by_cases hAuth : (s.disp d).state = .authorized
  · have hState : s.linkOrder t d = t.preStartClose d .linkLost := by
      have hCalled : s.called d = true := decide_eq_true hAuth
      unfold State.linkOrder
      rw [hCalled]
      exact endFill_authorized (hDisp ▸ hAuth) rfl
    obtain ⟨hClock, hClockSet⟩ := h.clock
    have hRing : ∀ n e, findEntry n t.log.ring = some e →
        findEntry n (t.closePreStart d .linkLost).log.ring = some e ∨
          findEntry n (t.closePreStart d .linkLost).log.ring = some (e.lost s.link.clock s.link.clockSet) := by
      intro n e he
      have hClosed := closeEntry_findEntry d (fun e => { e with cause := some Cause.linkLost }) (fun _ => rfl) he
      rw [hClock, hClockSet] at hClosed
      exact hClosed
    rw [hState]
    refine ⟨?_, ?_, ?_, ?_, ?_, fun n e he => ?_, fun x hx n e hState hOwnN he => ?_⟩
    · rw [preStartClose_eq]; exact h.field
    · rw [preStartClose_eq]; exact h.banks
    · rw [preStartClose_eq]; exact h.comp
    · rw [preStartClose_eq]; exact h.precool
    · rw [link_preStartClose]
      obtain ⟨hPost, hPostSet⟩ := post_clock t.link .fillEnd (.dispenser d) Cause.linkLost.code
      exact ⟨hPost.trans hClock, hPostSet.trans hClockSet⟩
    · rw [log_preStartClose]
      rcases h.entries n e he with he | he
      · exact hRing n e he
      · have hTwice := hRing n _ he
        rw [lost_lost] at hTwice
        exact .inr (or_self_iff.1 hTwice)
    · rw [log_preStartClose]
      by_cases hxd : x = d
      · subst hxd
        have hLost : ∀ z : LogEntry, findEntry n t.log.ring = some z →
            findEntry n (t.closePreStart x .linkLost).log.ring = some (z.lost s.link.clock s.link.clockSet) := by
          intro z hz
          have hClosed := (closeEntry_of_own (hOwn.trans hOwnN) hz (fun e => { e with cause := some Cause.linkLost }) rfl).2
          rw [hClock, hClockSet] at hClosed
          exact hClosed
        rcases h.entries n e he with he | he
        · exact hLost e he
        · have hTwice := hLost _ he
          rw [lost_lost] at hTwice
          exact hTwice
      · have hxDs : x ∈ ds := (List.mem_append.1 hx).resolve_right fun hx => hxd (List.mem_singleton.1 hx)
        have hTwice := hRing n _ (h.closed x hxDs n e hState hOwnN he)
        rw [lost_lost] at hTwice
        exact or_self_iff.1 hTwice
  · have hState : s.linkOrder t d = t := by
      have hCalled : s.called d = false := decide_eq_false hAuth
      unfold State.linkOrder
      rw [hCalled, hHold]
      rfl
    rw [hState]
    refine ⟨h.field, h.banks, h.comp, h.precool, h.clock, h.entries, fun x hx n e hState hOwnN he => ?_⟩
    refine h.closed x ((List.mem_append.1 hx).resolve_right fun hx => ?_) n e hState hOwnN he
    exact hAuth (List.mem_singleton.1 hx ▸ hState)

/-! ## The expiry (R13) -/

theorem linkActionTasks_eq (s : State) :
    s.linkActionTasks = (Four.all.filter fun d => s.stops || s.called d).map fun d => .endCause d .linkLost := rfl

/-- The agenda of the expiry, the orders one after another: an order that is not called for, and STOP's to a dispenser
at rest, change nothing. -/
theorem runTasks_linkOrders {s u : State} (hQuiet : s.stops = false ∨ ∀ d, s.banks.grant.get d = none) :
    ∀ (rest ds : List Four) (t : State) (n : Nat), (ds ++ rest).Nodup → LinkOrdered s u ds t → 2 * rest.length ≤ n →
      State.runTasks n ((rest.filter fun d => s.stops || s.called d).map fun d => .endCause d .linkLost) t =
          rest.foldl s.linkOrder t ∧
        LinkOrdered s u (ds ++ rest) (rest.foldl s.linkOrder t) := by
  intro rest
  induction rest with
  | nil =>
    intro ds t n _ h _
    rw [List.append_nil]
    exact ⟨runTasks_nil n t, h⟩
  | cons d rest ih =>
    intro ds t n hNodup h hn
    have hd : d ∉ ds := fun hd => (List.disjoint_of_nodup_append hNodup) hd List.mem_cons_self
    have hOrder := h.order hd (hQuiet.imp_right fun hAll => hAll d)
    have hSplit : ds ++ d :: rest = (ds ++ [d]) ++ rest := by simp
    rw [hSplit] at hNodup ⊢
    rw [List.foldl_cons]
    rw [List.length_cons] at hn
    obtain ⟨hDisp, -⟩ := h.waiting d hd
    by_cases hAsked : (s.stops || s.called d) = true
    · have hEnds : t.endsQuietly d := by
        unfold State.endsQuietly
        rw [hDisp, h.grants]
        rcases hQuiet with hHold | hAll
        · rw [hHold, Bool.false_or] at hAsked
          have hAuth : (s.disp d).state = .authorized := of_decide_eq_true hAsked
          exact .inl (by rw [hAuth]; rfl)
        · exact .inr (hAll d)
      have hState : s.linkOrder t d = t.endFill d .linkLost := by
        unfold State.linkOrder
        split
        · rfl
        · next hNot =>
          have hRun : (t.disp d).state.running = false := by
            rw [hDisp]
            revert hNot hAsked
            cases s.stops <;> cases s.called d <;> simp
          have hAuth : (t.disp d).state ≠ .authorized := by
            rw [hDisp]
            intro hAuth
            exact hNot (by simp [State.called, hAuth])
          exact (endFill_ignored hRun hAuth).symm
      obtain ⟨m, hm, hRun⟩ := runTasks_endCause (c := .linkLost) hEnds rfl (n - 2)
        ((rest.filter fun d => s.stops || s.called d).map fun d => .endCause d .linkLost)
      rw [List.filter_cons_of_pos (p := fun d => s.stops || s.called d) hAsked, List.map_cons, show n = n - 2 + 2 by omega, hRun, ← hState]
      exact ih _ _ m hNodup hOrder (by omega)
    · have hState : s.linkOrder t d = t := by
        unfold State.linkOrder
        refine if_neg fun hCalled => hAsked ?_
        revert hCalled
        cases s.stops <;> simp
      rw [List.filter_cons_of_neg (p := fun d => s.stops || s.called d) hAsked]
      rw [hState] at hOrder ⊢
      exact ih _ _ n hNodup hOrder (by omega)

/-- The orders under HOLD keep what `HoldOrdered` says. -/
theorem holdOrdered_orders {s u : State} (hHold : s.stops = false) :
    ∀ (rest ds : List Four) (t : State), (ds ++ rest).Nodup → LinkOrdered s u ds t → HoldOrdered s u ds t →
      HoldOrdered s u (ds ++ rest) (rest.foldl s.linkOrder t) := by
  intro rest
  induction rest with
  | nil =>
    intro ds t _ _ h
    rw [List.append_nil]
    exact h
  | cons d rest ih =>
    intro ds t hNodup hOrdered h
    have hd : d ∉ ds := fun hd => (List.disjoint_of_nodup_append hNodup) hd List.mem_cons_self
    have hSplit : ds ++ d :: rest = (ds ++ [d]) ++ rest := by simp
    rw [hSplit] at hNodup ⊢
    exact ih _ _ hNodup (hOrdered.order hd (.inl hHold)) (h.order hOrdered hd hHold)

theorem post_fills_supervision (ds : List Four) (l : Link) :
    (ds.foldl (fun l d => l.post .fillEnd (.dispenser d) 20) l).supervision = l.supervision ∧
      (ds.foldl (fun l d => l.post .fillEnd (.dispenser d) 20) l).supTimer = l.supTimer := by
  induction ds generalizing l with
  | nil => exact ⟨rfl, rfl⟩
  | cons d ds ih =>
    obtain ⟨h, k⟩ := post_supervision l .fillEnd (.dispenser d) 20
    obtain ⟨hRest, kRest⟩ := ih (l.post .fillEnd (.dispenser d) 20)
    exact ⟨hRest.trans h, kRest.trans k⟩

/-- The state in which the orders of an expiry begin (R13). -/
def State.linkExpired (s : State) : State :=
  { s with
    link := Link.post { s.link with supervision := .lost, supTimer := none } .linkTimeout .station s.stops.toNat }

theorem exec_linkTimerExpiry {s : State} (hWatch : s.link.supervision = .watching) (hTimer : s.link.supTimer = some 0) :
    exec .linkTimerExpiry s = .next (s.linkExpired.take s.linkExpired.linkActionTasks) := by
  have hCode : linkActionCode s.work.site.linkAction = s.stops.toNat := by
    unfold State.stops
    cases s.work.site.linkAction <;> rfl
  refine congrArg Host.Outcome.next ((if_pos ⟨hWatch, hTimer⟩).trans ?_)
  rw [hCode]
  rfl

theorem four_all_nodup : Four.all.Nodup := by decide

theorem superviseFrame_notExpired (s : State) (hLimit : s.work.site.linkTimeout ≠ 0) :
    s.superviseFrame.link.supervision ≠ .watching ∨ s.superviseFrame.link.supTimer ≠ some 0 := by
  by_cases hOff : s.link.supervision = .off
  · rw [superviseFrame_off hOff, hOff]
    exact .inl (by decide)
  · rw [superviseFrame_on hOff]
    refine .inr fun h => hLimit ?_
    have := Option.some.inj h
    omega

theorem exec_linkTimerExpiry_other {s : State} (h : s.link.supervision ≠ .watching ∨ s.link.supTimer ≠ some 0) :
    exec .linkTimerExpiry s = .next s :=
  congrArg Host.Outcome.next (if_neg fun ⟨hWatch, hTimer⟩ => h.elim (· hWatch) (· hTimer))

/-- A well-formed frame taken leaves supervision as `State.superviseFrame` does (R13). -/
theorem takeFrame_supervision (s : State) (k g : Byte) (body : List Byte) :
    (s.takeFrame k g body).link.supervision = s.superviseFrame.link.supervision ∧
      (s.takeFrame k g body).link.supTimer = s.superviseFrame.link.supTimer := by
  unfold State.takeFrame
  dsimp only
  split
  · unfold State.noteBusy
    split <;> exact ⟨rfl, rfl⟩
  · split <;> exact ⟨rfl, rfl⟩

/-- Settles O12: the orders of the agenda by `runTasks_linkOrders`, what they leave by `LinkOrdered` and `HoldOrdered`. -/
theorem silenceTakesTheLinkAction : Obligations.SilenceTakesTheLinkAction := by
  refine ⟨fun s h => exec_linkTimerExpiry_other h, fun f s t hLen hCrc hLimit hExec => ?_, fun s hWatch hTimer => ?_⟩
  · have hTaken : t = s.hunt.takeFrame f.kind f.tag f.body :=
      (Host.Outcome.next.inj hExec).symm.trans (completeFrame_wellFormed s.hunt hLen hCrc)
    obtain ⟨hSupervision, hSupTimer⟩ := takeFrame_supervision s.hunt f.kind f.tag f.body
    refine exec_linkTimerExpiry_other ?_
    rw [hTaken, hSupervision, hSupTimer]
    exact superviseFrame_notExpired s.hunt hLimit
  · have hExec := exec_linkTimerExpiry hWatch hTimer
    have hTake (hQuiet : s.stops = false ∨ ∀ d, s.banks.grant.get d = none) :=
      runTasks_linkOrders (u := s.linkExpired) hQuiet Four.all [] s.linkExpired 1000 four_all_nodup
        (linkOrdered_nil rfl) (by decide)
    refine ⟨fun hStop => ?_, fun hQuiet => ?_, fun hHold => ?_⟩
    · rw [hExec, linkActionTasks_eq]
      have hAll : (Four.all.filter fun d => s.linkExpired.stops || s.linkExpired.called d) = Four.all :=
        List.filter_eq_self.2 fun d _ => by
          have hStops : s.linkExpired.stops = true := hStop
          rw [hStops]
          rfl
      rw [hAll]
      rfl
    · obtain ⟨hRun, hOrdered⟩ := hTake hQuiet
      obtain ⟨hLost, hNone⟩ := post_supervision { s.link with supervision := .lost, supTimer := none } .linkTimeout
        .station s.stops.toNat
      obtain ⟨hSupervision, hSupTimer⟩ := post_fills_supervision (Four.all.filter s.called) s.linkExpired.link
      refine ⟨_, hExec.trans (congrArg Host.Outcome.next hRun), rfl, hOrdered.link, ?_, ?_, fun d hAuth => ?_,
        fun d hStop hRunning => hOrdered.ended d (four_mem_all d) hStop hRunning,
        fun d hOther hSpared => hOrdered.spared d (four_mem_all d) hOther hSpared⟩
      · rw [hOrdered.link]
        exact hSupervision.trans hLost
      · rw [hOrdered.link]
        exact hSupTimer.trans hNone
      · obtain ⟨hDisp, hSale, hOwn⟩ := hOrdered.closed d (four_mem_all d) hAuth
        rw [hDisp]
        exact ⟨rfl, rfl, hSale, hOwn⟩
    · obtain ⟨hRun, -⟩ := hTake (.inl hHold)
      have hBegun : HoldOrdered s s.linkExpired [] s.linkExpired :=
        ⟨rfl, rfl, rfl, rfl, post_clock _ _ _ _, fun n e he => .inl he, fun d hd => by cases hd⟩
      have hOrders := holdOrdered_orders hHold Four.all [] s.linkExpired four_all_nodup (linkOrdered_nil rfl) hBegun
      exact ⟨_, hExec.trans (congrArg Host.Outcome.next hRun),
        fun d n e hAuth hOwn he => hOrders.closed d (four_mem_all d) n e hAuth hOwn he,
        hOrders.field, hOrders.banks, hOrders.comp, hOrders.precool⟩

end Sys2Proof.Machine
end

section
/-!
PROOF. A dispenser in ENDING stands as it is through every consequence of an event, whatever follows from the release of
its bank (O46): its setpoint is 0, its path closed, and it waits for no bank.
-/

namespace Sys2Proof.Machine

/-- A dispenser in ENDING with cause `c`, no hold condition set (R129). -/
def Dispenser.endingWith (c : Cause) (p : Dispenser) : Prop :=
  p.state = .ending ∧ (∀ f, p.fill = some f → f.cause = some c) ∧ p.waitBank = false ∧ p.overshoot = false ∧
    p.vehicleHalt = false

/-- `d` in ENDING with cause `c`, its setpoint 0, the valves of its path as `vs` gives them, and on no wait list. -/
def InEnding (d : Four) (c : Cause) (vs : Valve → ValveRec) (t : State) : Prop :=
  (t.disp d).endingWith c ∧ t.field.pcv.get d = 0 ∧ (∀ v ∈ pathValves d, t.valve v = vs v) ∧
    ∀ b, d ∉ (t.bank b).waiters

/-- A consequence other than planning, the one that no dispenser's state holds back. -/
def Task.noPlan : Task → Prop
  | .plan _ => False
  | _ => True

variable {d : Four} {c : Cause} {vs : Valve → ValveRec} {t u : State}

namespace InEnding

theorem disp (h : InEnding d c vs t) : (t.disp d).endingWith c := h.1

theorem waiters (h : InEnding d c vs t) (b : Four) : d ∉ (t.bank b).waiters := h.2.2.2 b

/-- A change that leaves all that `InEnding` speaks of. -/
theorem of (h : InEnding d c vs t) (hDisp : u.disp d = t.disp d) (hPcv : u.field.pcv.get d = t.field.pcv.get d)
    (hPath : ∀ v ∈ pathValves d, u.valve v = t.valve v) (hWaiters : ∀ b, d ∈ (u.bank b).waiters → d ∈ (t.bank b).waiters) :
    InEnding d c vs u := by
  obtain ⟨hEnding, hZero, hClosed, hAway⟩ := h
  exact ⟨hDisp ▸ hEnding, hPcv.trans hZero, fun v hv => (hPath v hv).trans (hClosed v hv),
    fun b hb => hAway b (hWaiters b hb)⟩

theorem state (h : InEnding d c vs t) : (t.disp d).state = .ending := h.1.1

/-- A dispenser in another state is another dispenser. -/
theorem ne_of_state (h : InEnding d c vs t) {e : Four} (he : (t.disp e).state ≠ .ending) : e ≠ d :=
  fun hed => he (hed ▸ h.state)

theorem of_compFrame (h : InEnding d c vs t) (k : CompFrame t u) : InEnding d c vs u := by
  refine h.of ?_ ?_ (fun v hv => ?_) fun b hb => k.waiters b ▸ hb
  · exact congrArg (·.get d) k.disps
  · exact congrArg (·.get d) k.pcv
  · rcases List.mem_cons.1 hv with rfl | hv
    · exact k.valve_dv d
    · obtain ⟨b, -, rfl⟩ := List.mem_map.1 hv
      exact k.valve_bv b d

theorem modDisp (h : InEnding d c vs t) {e : Four} (he : e ≠ d) (f : Dispenser → Dispenser) :
    InEnding d c vs (t.modDisp e f) :=
  h.of ((disp_modDisp _ _ _ _).trans (if_neg he.symm)) rfl (fun _ _ => rfl) fun _ => id

/-- A fill changed beside its cause. -/
theorem modFill (h : InEnding d c vs t) (e : Four) (f : Fill → Fill) (hf : ∀ x, (f x).cause = x.cause) :
    InEnding d c vs (t.modFill e f) := by
  by_cases he : e = d
  · subst he
    obtain ⟨⟨hState, hCause, hHeld⟩, hRest⟩ := h
    refine ⟨?_, hRest⟩
    unfold State.modFill
    rw [disp_modDisp, if_pos rfl]
    refine ⟨hState, fun y hy => ?_, hHeld⟩
    obtain ⟨x, hx, rfl⟩ := Option.map_eq_some_iff.1 hy
    exact (hf x).trans (hCause x hx)
  · exact h.modDisp he _

/-- The Bank Manager changed beside its bank records. -/
theorem modBanks (h : InEnding d c vs t) (f : Banks → Banks) (hf : (f t.banks).recs = t.banks.recs) :
    InEnding d c vs (t.modBanks f) :=
  h.of rfl rfl (fun _ _ => rfl) fun b => by
    change d ∈ ((f t.banks).recs.get b).waiters → _
    rw [hf]
    exact id

theorem setPcv (h : InEnding d c vs t) {e : Four} (he : e ≠ d) (p : Nat) : InEnding d c vs (t.setPcv e p) :=
  h.of rfl ((quad_get_set _ _ _ _).trans (if_neg he.symm)) (fun _ _ => rfl) fun _ => id

theorem command (h : InEnding d c vs t) {v : Valve} (hv : v ∉ pathValves d) (l : Level) :
    InEnding d c vs (t.command v l) :=
  h.of rfl rfl (fun w hw => (valve_command _ _ _ _).trans (if_neg fun hwv : w = v => hv (hwv ▸ hw))) fun _ => id

theorem closeAll (h : InEnding d c vs t) {ws : List Valve} (hws : ∀ w ∈ ws, w ∉ pathValves d) :
    InEnding d c vs (t.closeAll ws) := by
  refine h.of ?_ ?_ (fun v hv => ?_) fun b => ?_
  · rw [closeAll_eq]
    rfl
  · rw [closeAll_eq]
  · rw [valve_closeAll]
    exact if_neg fun hvs => hws v hvs hv
  · rw [closeAll_eq]
    exact id

theorem leaveWaitLists (h : InEnding d c vs t) (e : Four) : InEnding d c vs (t.leaveWaitLists e) := by
  refine h.of rfl rfl (fun _ _ => rfl) fun b hb => ?_
  have hRecs : ((t.leaveWaitLists e).bank b).waiters = (t.bank b).waiters.filter fun w => decide (w ≠ e) := by
    simp [State.leaveWaitLists, State.bank]
  rw [hRecs] at hb
  exact List.mem_of_mem_filter hb

/-- A bank changed beside its wait list. -/
theorem modBank (h : InEnding d c vs t) (b : Four) (f : BankRec → BankRec) (hf : ∀ k, (f k).waiters = k.waiters) :
    InEnding d c vs (t.modBank b f) := by
  refine h.of rfl rfl (fun _ _ => rfl) fun x hx => ?_
  rw [bank_modBank] at hx
  split at hx
  · rwa [hf] at hx
  · exact hx

theorem log (h : InEnding d c vs t) (hu : u = { t with log := u.log }) : InEnding d c vs u := by
  rw [hu]
  exact h.of rfl rfl (fun _ _ => rfl) fun _ => id

theorem checkpoint (h : InEnding d c vs t) (e : Four) : InEnding d c vs (t.checkpoint e) := h.log (checkpoint_log t e)

theorem evalStart (h : InEnding d c vs t) : InEnding d c vs t.evalStart :=
  h.of_compFrame (compFrame_evalStart (CompFrame.refl t))

theorem commandSetpoint (h : InEnding d c vs t) {e : Four} (he : e ≠ d) : InEnding d c vs (t.commandSetpoint e) := by
  unfold State.commandSetpoint
  split
  · exact h.setPcv he _
  · exact h

end InEnding

theorem bv_not_path {b e : Four} (he : e ≠ d) : Valve.bv b e ∉ pathValves d := by
  simp [pathValves, he.symm]

theorem dv_not_path {e : Four} (he : e ≠ d) : Valve.dv e ∉ pathValves d := by
  simp [pathValves, he]

theorem path_not_path {e : Four} (he : e ≠ d) : ∀ v ∈ pathValves e, v ∉ pathValves d := by
  intro v hv
  rcases List.mem_cons.1 hv with rfl | hv
  · exact dv_not_path he
  · obtain ⟨b, -, rfl⟩ := List.mem_map.1 hv
    exact bv_not_path he

/-! ## Consequences -/

/-- A result in which `d` stays in ENDING, no planning following. -/
def EndingResult (d : Four) (c : Cause) (vs : Valve → ValveRec) (p : State × List Task) : Prop :=
  InEnding d c vs p.1 ∧ ∀ k ∈ p.2, k.noPlan

theorem endingResult_nil (h : InEnding d c vs t) : EndingResult d c vs (t, []) := ⟨h, fun _ hk => by cases hk⟩

theorem endingResult_of (h : InEnding d c vs t) (ks : List Task) (hk : ∀ k ∈ ks, k.noPlan) : EndingResult d c vs (t, ks) :=
  ⟨h, hk⟩

theorem InEnding.joinWaitList (h : InEnding d c vs t) {e : Four} (he : e ≠ d) (b : Four) :
    InEnding d c vs (t.joinWaitList e b) := by
  have hJoined : InEnding d c vs (t.modBank b fun k => { k with waiters := k.waiters ++ [e] }) := by
    refine h.of rfl rfl (fun _ _ => rfl) fun x hx => ?_
    rw [bank_modBank] at hx
    split at hx
    · exact (List.mem_append.1 hx).resolve_right fun hx => he (List.mem_singleton.1 hx).symm
    · exact hx
  unfold State.joinWaitList
  exact InEnding.modDisp (hJoined.modBanks (fun k => { k with wait := k.wait.set e (seconds t.work.site.bankWait) }) rfl) he _

theorem endingResult_walk (h : InEnding d c vs t) (e : Four) (x : Option Four) : EndingResult d c vs (t.walk e x) := by
  unfold State.walk
  dsimp only
  split
  · next hAsks =>
    split
    · exact endingResult_of h _ (by simp [Task.noPlan])
    · split
      · next b _ =>
        have he : e ≠ d := h.ne_of_state fun hEnding => by
          rw [hEnding] at hAsks
          cases hAsks
        exact endingResult_nil (h.joinWaitList he b)
      · exact endingResult_of h _ (by simp [Task.noPlan])
  · exact endingResult_nil h

theorem InEnding.recordGrant (h : InEnding d c vs t) (e b : Four) : InEnding d c vs (t.recordGrant e b) := by
  have hBank : InEnding d c vs (t.modBank b fun k => { k with state := .drawing e, window := some (t.openWindow e b) }) :=
    h.modBank b _ fun _ => rfl
  unfold State.recordGrant
  dsimp only
  split
  · exact (hBank.modBanks _ rfl).modFill e _ fun _ => rfl
  · exact hBank.modBanks _ rfl

theorem endingResult_grant (h : InEnding d c vs t) (e b : Four) : EndingResult d c vs (t.grant e b) := by
  have hGranted := (h.recordGrant e b).evalStart
  unfold State.grant
  dsimp only
  split
  · exact endingResult_of hGranted _ (by simp [Task.noPlan])
  · exact endingResult_of hGranted _ (by simp [Task.noPlan])
  · exact endingResult_of hGranted _ (by simp [Task.noPlan])
  · refine ⟨hGranted, ?_⟩
    dsimp only
    split <;> simp [Task.noPlan]

theorem mismatchTasks_noPlan (w : Window) (n : Nat) : ∀ k ∈ mismatchTasks w n, k.noPlan := by
  unfold mismatchTasks
  split <;> simp [Task.noPlan]

theorem endingResult_release (h : InEnding d c vs t) (b e : Four) : EndingResult d c vs (t.release b e) := by
  have hBank : InEnding d c vs (t.modBank b fun k => { k with window := none }) := h.modBank b _ fun _ => rfl
  have hFreed := hBank.modBanks
    (fun k => { k with grant := if k.grant.get e = some b then k.grant.set e none else k.grant }) rfl
  unfold State.release
  split
  · dsimp only
    split
    · exact endingResult_of hFreed _ (by simp [Task.noPlan])
    · refine ⟨hFreed.modFill e _ fun _ => rfl, fun k hk => ?_⟩
      rcases List.mem_append.1 hk with hk | hk
      · exact mismatchTasks_noPlan _ _ k hk
      · obtain rfl := List.mem_singleton.1 hk
        trivial
  · exact endingResult_nil h

theorem endingResult_freeBank (h : InEnding d c vs t) (b : Four) : EndingResult d c vs (t.freeBank b) := by
  unfold State.freeBank
  split
  · exact endingResult_of (h.modBank b (fun k => { k with state := .isolated, isolatePending := false }) fun _ => rfl).evalStart _
      (by simp [Task.noPlan])
  · exact endingResult_of (h.modBank b (fun k => { k with state := .ready }) fun _ => rfl) _ (by simp [Task.noPlan])

theorem endingResult_serveWaiters (h : InEnding d c vs t) (b : Four) : EndingResult d c vs (t.serveWaiters b) := by
  unfold State.serveWaiters
  split
  · split
    · exact endingResult_nil h.evalStart
    · dsimp only
      split <;> exact endingResult_of (h.leaveWaitLists _) _ (by simp [Task.noPlan])
  · exact endingResult_nil h

theorem endingResult_rewalkWaiters (h : InEnding d c vs t) (b : Four) : EndingResult d c vs (t.rewalkWaiters b) := by
  unfold State.rewalkWaiters
  split
  · exact endingResult_nil h
  · exact endingResult_of (h.leaveWaitLists _) _ (by simp [Task.noPlan])

theorem endingResult_isolateBank (h : InEnding d c vs t) (b : Four) : EndingResult d c vs (t.isolateBank b) := by
  have hIsolated := h.modBank b (fun k => { k with state := .isolated }) fun _ => rfl
  have hPending := h.modBank b (fun k => { k with isolatePending := true }) fun _ => rfl
  unfold State.isolateBank
  split
  · exact endingResult_of hIsolated.evalStart _ (by simp [Task.noPlan])
  · exact endingResult_of hIsolated _ (by simp [Task.noPlan])
  · split
    · exact endingResult_nil h
    · exact endingResult_of hPending _ (by simp [Task.noPlan])
  · exact endingResult_nil h

theorem endingResult_switchDemand (h : InEnding d c vs t) (e : Four) : EndingResult d c vs (t.switchDemand e) := by
  unfold State.switchDemand
  split
  · exact endingResult_of h _ (by simp [Task.noPlan])
  · exact endingResult_nil h

theorem endingResult_switchTests (h : InEnding d c vs t) (e : Four) : EndingResult d c vs (t.switchTests e) := by
  have hBanks := fun lag : Nat => h.modBanks (fun k => { k with lag := k.lag.set e lag }) rfl
  unfold State.switchTests
  split
  · split
    · dsimp only
      split
      · exact endingResult_of (hBanks _) _ (by simp [Task.noPlan])
      · exact endingResult_nil (hBanks _)
    · exact endingResult_nil h
  · exact endingResult_nil h

theorem InEnding.preStartClose (h : InEnding d c vs t) {e : Four} (he : e ≠ d) (x : Cause) :
    InEnding d c vs (t.preStartClose e x) := by
  refine h.of ?_ ?_ (fun v _ => ?_) fun b => ?_
  · rw [disp_preStartClose, if_neg he.symm]
  all_goals rw [preStartClose_eq]
  · rfl
  · exact id

theorem InEnding.entered (h : InEnding d c vs t) {e : Four} (he : e ≠ d) (x : Cause) : InEnding d c vs (t.entered e x) := by
  have hAway := (h.modDisp he (·.ended x)).leaveWaitLists e
  have hLeft : InEnding d c vs (State.leavePrecoolList ((t.modDisp e (·.ended x)).leaveWaitLists e) e) := hAway
  unfold State.entered
  exact (hLeft.closeAll (path_not_path he)).setPcv he 0

theorem endingResult_endCause (h : InEnding d c vs t) (e : Four) (x : Cause) : EndingResult d c vs (t.endCause e x) := by
  cases hRun : (t.disp e).state.running with
  | true =>
    have he : e ≠ d := h.ne_of_state fun hEnding => by rw [hEnding] at hRun; cases hRun
    rw [endCause_running x hRun]
    cases hGrant : t.banks.grant.get e with
    | none =>
      rw [enterEnding_none hGrant]
      exact endingResult_of (h.entered he x) _ (by simp [Task.noPlan])
    | some b =>
      rw [enterEnding_some hGrant]
      exact endingResult_of (h.entered he x) _ (by simp [Task.noPlan])
  | false =>
    by_cases hAuth : (t.disp e).state = .authorized
    · cases hPre : x.preStart with
      | true =>
        rw [endCause_authorized hAuth hPre]
        exact endingResult_nil (h.preStartClose (h.ne_of_state (by rw [hAuth]; decide)) x)
      | false =>
        have hNothing : t.endCause e x = (t, []) := by simp [State.endCause, hAuth, hPre, DispState.running]
        rw [hNothing]
        exact endingResult_nil h
    · rw [endCause_ignored hRun hAuth]
      exact endingResult_nil h

theorem InEnding.endingRest (h : InEnding d c vs t) (e : Four) : InEnding d c vs (t.endingRest e) := by
  obtain ⟨⟨hState, hCause, hHeld⟩, hPcv, hPath, hWaiters⟩ := h
  refine ⟨?_, ?_, fun v hv => ?_, fun b => ?_⟩
  · rw [disp_endingRest]
    split
    · exact ⟨hState, hCause, hHeld⟩
    · exact ⟨hState, hCause, hHeld⟩
  all_goals rw [endingRest_eq]
  · exact hPcv
  · exact hPath v hv
  · exact hWaiters b

theorem endingResult_mismatch (h : InEnding d c vs t) (e : Four) : EndingResult d c vs (t.mismatch e) :=
  endingResult_of (InEnding.checkpoint (t := t.modLog _) h e) _ (by simp [Task.noPlan])

theorem endingResult_takeGrant (h : InEnding d c vs t) (e b : Four) (old : Option Four) :
    EndingResult d c vs (t.takeGrant e b old) := by
  unfold State.takeGrant
  split
  · split
    · next hState =>
      have he : e ≠ d := h.ne_of_state (by rw [hState]; decide)
      refine ⟨(((h.setPcv he _).command (bv_not_path he) .opened).command (dv_not_path he) .opened).modDisp he _, ?_⟩
      unfold State.beginPulse
      dsimp only
      split <;> simp [Task.noPlan]
    · next hState =>
      have he : e ≠ d := h.ne_of_state (by rw [hState]; decide)
      have hClosed : InEnding d c vs (old.elim t fun b0 => t.command (.bv b0 e) .closed) := by
        cases old with
        | none => exact h
        | some b0 => exact h.command (bv_not_path he) .closed
      have hOpened := fun f => InEnding.modDisp
        ((hClosed.command (bv_not_path (b := b) he) .opened).command (dv_not_path he) .opened) he f
      unfold State.beginDraw
      dsimp only
      refine ⟨?_, ?_⟩
      · dsimp only
        split
        · exact (hOpened _).checkpoint e
        · exact hOpened _
      · dsimp only
        split <;> simp [Task.noPlan]
    · exact endingResult_nil h
  · exact endingResult_nil h

theorem endingResult_admitHead (h : InEnding d c vs t) : EndingResult d c vs t.admitHead := by
  unfold State.admitHead
  split
  · exact endingResult_nil h
  · split
    · exact endingResult_nil h
    · exact endingResult_of (t := State.reserve (t.modPrecool _) _ _ _) h _ (by simp [Task.noPlan])

theorem endingResult_enterFuelling (h : InEnding d c vs t) (e : Four) (g : Grade) (f : Figures) :
    EndingResult d c vs (t.enterFuelling e g f) := by
  unfold State.enterFuelling
  split
  · next hState =>
    have he : e ≠ d := h.ne_of_state (by rcases hState with hState | hState <;> rw [hState] <;> decide)
    have hEntered := fun v => InEnding.commandSetpoint (h.modDisp he v) he
    dsimp only
    split
    · split
      · exact endingResult_of (t := State.modReceiver _ _ _) (hEntered _) _ (by simp [Task.noPlan])
      · refine ⟨?_, by simp [Task.noPlan]⟩
        dsimp only
        split
        · exact InEnding.modDisp (t := State.modReceiver _ _ _) (hEntered _) he _
        · exact hEntered _
    · exact endingResult_of (hEntered _) _ (by simp [Task.noPlan])
  · exact endingResult_nil h

theorem endingResult_fuelRequest (h : InEnding d c vs t) (e : Four) : EndingResult d c vs (t.fuelRequest e) := by
  unfold State.fuelRequest
  split
  · split <;> exact endingResult_of h _ (by simp [Task.noPlan])
  · exact endingResult_nil h

theorem completeTasks_noPlan (u : State) (e : Four) : ∀ k ∈ u.completeTasks e, k.noPlan := by
  unfold State.completeTasks
  split <;> simp [Task.noPlan]

theorem endingResult_fallback (h : InEnding d c vs t) (e : Four) : EndingResult d c vs (t.fallback e) := by
  by_cases hState : (t.disp e).state = .fuelling
  · have he : e ≠ d := h.ne_of_state (by rw [hState]; decide)
    rw [fallback_eq t e hState]
    refine ⟨InEnding.commandSetpoint ?_ he, completeTasks_noPlan _ e⟩
    exact InEnding.modDisp (InEnding.modDisp (t := t.modReceiver e _) h he _) he _
  · unfold State.fallback
    rw [if_neg hState]
    exact endingResult_nil h

theorem endingResult_precoolTest (h : InEnding d c vs t) (e : Four) : EndingResult d c vs (t.precoolTest e) := by
  unfold State.precoolTest
  split
  · next hState _ =>
    have he : e ≠ d := h.ne_of_state (by rw [hState]; decide)
    split
    · exact endingResult_nil h
    · dsimp only
      split
      · exact endingResult_nil h
      · split
        · exact endingResult_of h _ (by simp [Task.noPlan])
        · exact ⟨InEnding.commandSetpoint (InEnding.modDisp (t := t.modPrecool _) h he _) he, completeTasks_noPlan _ e⟩
  · exact endingResult_nil h

theorem InEnding.restartRamp (h : InEnding d c vs t) (e : Four) : InEnding d c vs (t.restartRamp e) := by
  unfold State.restartRamp
  split
  · next hState => exact h.modDisp (h.ne_of_state (by rw [hState]; decide)) _
  · exact h

/-- Every consequence but planning leaves a dispenser in ENDING as it stands. -/
theorem endingResult_doTask (h : InEnding d c vs t) (k : Task) (hk : k.noPlan) : EndingResult d c vs (t.doTask k) := by
  cases k with
  | endCause e x => exact endingResult_endCause h e x
  | endingRest e => exact endingResult_nil (h.endingRest e)
  | release b e => exact endingResult_release h b e
  | freeBank b => exact endingResult_freeBank h b
  | serve b => exact endingResult_serveWaiters h b
  | rewalk b => exact endingResult_rewalkWaiters h b
  | walk e x => exact endingResult_walk h e x
  | grant e b => exact endingResult_grant h e b
  | takeGrant e b old => exact endingResult_takeGrant h e b old
  | lose b =>
    refine ⟨h.of_compFrame (compFrame_loseBank (CompFrame.refl t) b), ?_⟩
    unfold State.doTask State.loseBank
    dsimp only
    split <;> simp [Task.noPlan]
  | choose a left =>
    refine ⟨h.of_compFrame (compFrame_choose (CompFrame.refl t) a left), ?_⟩
    unfold State.doTask State.choose
    dsimp only
    split
    · split
      · simp
      · split
        · simp [Task.noPlan]
        · split
          · simp [Task.noPlan]
          · split <;> simp
    · simp
  | isolate b => exact endingResult_isolateBank h b
  | switchDemand e => exact endingResult_switchDemand h e
  | mismatch e => exact endingResult_mismatch h e
  | latch x b =>
    refine ⟨h, ?_⟩
    unfold State.doTask State.latch
    dsimp only
    split <;> simp [Task.noPlan]
  | shutdown x =>
    refine ⟨h, ?_⟩
    simp [State.doTask, State.shutdown, Four.all, Task.noPlan]
  | compShutdown => exact endingResult_nil (h.of_compFrame (compFrame_compShutdown (CompFrame.refl t)))
  | plan e => exact absurd hk id
  | admitHead => exact endingResult_admitHead h
  | enterFuelling e g f => exact endingResult_enterFuelling h e g f
  | fuelRequest e => exact endingResult_fuelRequest h e
  | fuelCheckpoint e => exact endingResult_nil (h.checkpoint e)
  | fallback e => exact endingResult_fallback h e
  | rampBank e => exact endingResult_switchTests h e
  | rampPrecool e => exact endingResult_precoolTest h e
  | rampRestart e => exact endingResult_nil (h.restartRamp e)
  | unload => exact endingResult_nil (h.of_compFrame (compFrame_unload (CompFrame.refl t)))

theorem inEnding_runTasks (n : Nat) : ∀ (ts : List Task) (t : State), InEnding d c vs t → (∀ k ∈ ts, k.noPlan) →
    InEnding d c vs (State.runTasks n ts t) := by
  induction n with
  | zero =>
    intro ts t h _
    cases ts <;> exact h
  | succ n ih =>
    intro ts t h hts
    cases ts with
    | nil => exact h
    | cons k ts =>
      have hDone := endingResult_doTask h k (hts k List.mem_cons_self)
      refine ih _ _ hDone.1 fun j hj => ?_
      rcases List.mem_append.1 hj with hj | hj
      · exact hDone.2 j hj
      · exact hts j (List.mem_cons_of_mem k hj)

/-! ## The end of a running fill (R126, R129) -/

theorem inEnding_entered (s : State) (d : Four) (c : Cause) : InEnding d c (s.entered d c).valve (s.entered d c) := by
  refine ⟨?_, ?_, fun _ _ => rfl, fun b => ?_⟩
  · rw [disp_entered, if_pos rfl]
    refine ⟨rfl, fun f hf => ?_, rfl, rfl, rfl⟩
    obtain ⟨x, -, rfl⟩ := Option.map_eq_some_iff.1 hf
    rfl
  · rw [entered_eq]
    exact (quad_get_set _ _ _ _).trans (if_pos rfl)
  · rw [entered_eq]
    unfold State.bank
    rw [quad_get_map]
    simp

/-- A path valve that is OK is commanded closed by the entry to ENDING (R27, R129). -/
theorem entered_closed {s : State} {d : Four} (c : Cause) {v : Valve} (hv : v ∈ pathValves d) (hOk : (s.valve v).state = .ok) :
    ((s.entered d c).valve v).commanded = .closed := by
  have hValve : (s.entered d c).valve v = (s.closeAll (pathValves d)).valve v := by
    rw [entered_eq]
    rfl
  rw [hValve, valve_closeAll, if_pos hv]
  unfold ValveRec.command
  rw [hOk]
  dsimp only
  split
  · next h => exact h.symm
  · split <;> rfl

theorem endFill_inEnding {s : State} {d : Four} (hRun : (s.disp d).state.running = true) (c : Cause) :
    InEnding d c (s.entered d c).valve (s.endFill d c) := by
  have hEntry : s.doTask (.endCause d c) = s.enterEnding d c := endCause_running c hRun
  unfold State.endFill State.take agendaBound
  rw [runTasks_cons, hEntry, List.append_nil, enterEnding_entered]
  refine inEnding_runTasks 999 _ _ (inEnding_entered s d c) fun k hk => ?_
  cases hGrant : s.banks.grant.get d with
  | none =>
    rw [enterEnding_none hGrant] at hk
    simp only [List.mem_singleton] at hk
    rw [hk]
    trivial
  | some b =>
    rw [enterEnding_some hGrant] at hk
    simp only [List.mem_cons, List.not_mem_nil, or_false] at hk
    rcases hk with rfl | rfl <;> trivial

/-- Settles O46: `endFill_inEnding`, and the entry to ENDING written out where no bank is held. -/
theorem aRunningFillEnds : Obligations.ARunningFillEnds := by
  intro s d c hRun t
  obtain ⟨⟨hState, hCause, hWait, hOver, hHalt⟩, hPcv, hPath, hWaiters⟩ := endFill_inEnding hRun c
  refine ⟨hState, hCause, hWait, hOver, hHalt, hPcv, fun hOk => ?_, fun b hOk => ?_, hWaiters, fun hGrant => ?_⟩
  · have hv : Valve.dv d ∈ pathValves d := List.mem_cons_self
    rw [hPath _ hv]
    exact entered_closed c hv hOk
  · have hv : Valve.bv b d ∈ pathValves d := List.mem_cons_of_mem _ (List.mem_map.2 ⟨b, four_mem_all b, rfl⟩)
    rw [hPath _ hv]
    exact entered_closed c hv hOk
  · have hEnd : t = (s.entered d c).endingRest d := endFill_running_none hRun hGrant c
    rw [hEnd]
    refine ⟨?_, ?_, ?_, ?_⟩
    · rw [disp_endingRest, if_pos rfl, disp_entered, if_pos rfl]
      rfl
    all_goals rw [endingRest_eq]
    · exact (quad_get_set _ _ _ _).trans (if_pos rfl)
    · have hReceiver := receiver_modReceiver (s.entered d c) d d fun r => { r with watch := .idle }
      rw [if_pos rfl] at hReceiver
      exact congrArg (·.watch) hReceiver
    · simp

end Sys2Proof.Machine
end

section
/-!
PROOF. The ending settle's expiry (O47), and the money limit (O38).
-/

namespace Sys2Proof.Machine

/-- Settles O38: `m × p + 500 < 1000 × (v + 1)` is `m × p ≤ 1000 × v + 499`. -/
theorem aMoneyLimitIsTheGreatestMass : Obligations.AMoneyLimitIsTheGreatestMass := by
  intro value price stationMax m hPrice
  unfold massLimit amount
  dsimp only
  rw [Nat.le_div_iff_mul_le hPrice]
  omega

/-! ## ENDING left (R130) -/

variable {s : State}

/-- The notices of an end: FILL_END, and DISPENSER_FAULT for a fault cause (R130, R135). -/
def Link.postEnd (l : Link) (d : Four) (c : Cause) : Link :=
  if 32 ≤ c.code then (l.post .fillEnd (.dispenser d) c.code).post .dispenserFault (.dispenser d) c.code
  else l.post .fillEnd (.dispenser d) c.code

/-- An entry with a fill's final figures, as the close writes it (R157). -/
def LogEntry.finalised (e : LogEntry) (f : Fill) (c : Option Cause) (m : FinalFigures) (p : Nat) : LogEntry :=
  { e.copyFill f with
    held := false, mass := m.mass, billed := m.billed, overrun := m.overrun, cause := c, finalPressure := p }

theorem closeFinal_eq {d : Four} {f : Fill} (hFill : (s.disp d).fill = some f) (c : Option Cause) (m : FinalFigures) :
    s.closeFinal d c m = s.closeEntry d (·.finalised f c m ((s.pDisp d).getD 0)) := by
  unfold State.closeFinal
  rw [hFill]
  rfl

/-- The state that the end of the settle leaves. -/
theorem finishEnding_eq {d : Four} {f : Fill} {c : Cause} (hFill : (s.disp d).fill = some f) (hCause : f.cause = some c) :
    s.finishEnding d =
      { s with
        link := s.link.postEnd d c,
        disps := s.disps.modify d fun p => p.leaveEnding c (s.holderIn d),
        meter := { s.meter with recs := s.meter.recs.modify d fun m => { m with final := some (s.meterRec d).finalise } },
        precool := { s.precool with table := s.precool.table.set d none },
        log := (s.closeFinal d (some c) (s.meterRec d).finalise).log } := by
  have hc : ((s.disp d).fill.bind (·.cause)).getD .complete = c := by rw [hFill, Option.bind_some, hCause, Option.getD_some]
  have hClose : ((s.modMeterRec d fun m => { m with final := some (s.meterRec d).finalise }).modPrecool
        fun p => { p with table := p.table.set d none }).closeFinal d (some c) (s.meterRec d).finalise =
      ((s.closeFinal d (some c) (s.meterRec d).finalise).modMeterRec d
        fun m => { m with final := some (s.meterRec d).finalise }).modPrecool
        fun p => { p with table := p.table.set d none } := by
    unfold State.closeFinal State.closeEntry
    rw [State.modPrecool_log, State.modMeterRec_log]
    cases s.log.ownEntry d <;> rfl
  have hLog : s.closeFinal d (some c) (s.meterRec d).finalise =
      { s with log := (s.closeFinal d (some c) (s.meterRec d).finalise).log } := closeEntry_log _ _ _
  unfold State.finishEnding
  rw [hc]
  dsimp only
  rw [hClose]
  generalize (s.closeFinal d (some c) (s.meterRec d).finalise).log = g at hLog ⊢
  rw [hLog]
  unfold Link.postEnd Cause.isFault
  by_cases hFault : 32 ≤ c.code
  · rw [if_pos (decide_eq_true hFault), if_pos hFault]
    rfl
  · rw [if_neg (by simpa using hFault), if_neg hFault]
    rfl

theorem leaveEnding_lastCause (p : Dispenser) (c : Cause) (b : Bool) : (p.leaveEnding c b).lastCause = some c := by
  unfold Dispenser.leaveEnding Dispenser.toService
  dsimp only
  split
  · rfl
  · split <;> rfl

theorem leaveEnding_ending (p : Dispenser) (c : Cause) (b : Bool) : (p.leaveEnding c b).timers.ending = none := by
  unfold Dispenser.leaveEnding Dispenser.toService
  dsimp only
  split
  · rfl
  · split <;> rfl

theorem leaveEnding_stats (p : Dispenser) (c : Cause) (b : Bool) : (p.leaveEnding c b).stats = p.stats.count c := by
  unfold Dispenser.leaveEnding Dispenser.toService
  dsimp only
  split
  · rfl
  · split <;> rfl

/-- The state after ENDING, by the cause and the holder level (R130 step 7). -/
theorem leaveEnding_state (p : Dispenser) (c : Cause) (b : Bool) :
    (p.leaveEnding c b).state =
      if 32 ≤ c.code then .fault else if b then (if p.closePending then .closed else .idle) else .ended := by
  unfold Dispenser.leaveEnding Dispenser.toService Cause.isFault
  by_cases hFault : 32 ≤ c.code <;> cases b <;> simp [hFault]

theorem ite_isFault {α : Type} (c : Cause) (a b : α) : (if c.isFault then a else b) = if 32 ≤ c.code then a else b := by
  simp [Cause.isFault]

/-- Settles O47: `finishEnding_eq` for the state, `closeEntry_of_own` for the entry, `leaveEnding` for the dispenser. -/
theorem theSettleFinalisesTheFill : Obligations.TheSettleFinalisesTheFill := by
  intro s d f c p n e hState hTimer hFill hCause hSale hOwn hEntry
  have hFinal : (s.meterRec d).finalise =
      ⟨(s.meterRec d).mass, min (amount (s.meterRec d).mass p.price) p.cap, (s.meterRec d).mass - p.mLim⟩ := by
    unfold MeterRec.finalise billedFigure
    rw [hSale]
  refine ⟨s.finishEnding d, congrArg Host.Outcome.next (if_pos ⟨hState, hTimer⟩), ?_⟩
  rw [finishEnding_eq hFill hCause]
  have hDisp : (s.disps.modify d fun p => p.leaveEnding c (s.holderIn d)).get d =
      (s.disp d).leaveEnding c (s.holderIn d) := (quad_get_modify _ _ _ _).trans (if_pos rfl)
  have hHolder (h : (s.switch (.holder d)).settled = some .closed) : s.holderIn d = true := decide_eq_true h
  have hAway (h : (s.switch (.holder d)).settled ≠ some .closed) : s.holderIn d = false := decide_eq_false h
  obtain ⟨hOwn', hRing⟩ := closeEntry_of_own hOwn hEntry
    (·.finalised f (some c) (s.meterRec d).finalise ((s.pDisp d).getD 0)) rfl
  rw [← closeFinal_eq hFill] at hOwn' hRing
  refine ⟨?_, rfl, ⟨_, hRing, rfl, rfl, ?_, ?_, ?_, rfl, rfl, rfl⟩, hOwn', rfl, ?_, ?_, fun hFault => ?_,
    fun hFine hIn => ?_, fun hFine hOut => ?_, ?_, ?_, ?_, ?_, ?_, rfl, rfl, rfl, rfl⟩
  · have hMeter : (s.meter.recs.modify d fun m => { m with final := some (s.meterRec d).finalise }).get d =
        { s.meterRec d with final := some (s.meterRec d).finalise } := (quad_get_modify _ _ _ _).trans (if_pos rfl)
    exact (congrArg MeterRec.final hMeter).trans (congrArg some hFinal)
  · exact congrArg FinalFigures.mass hFinal
  · exact congrArg FinalFigures.billed hFinal
  · exact congrArg FinalFigures.overrun hFinal
  all_goals
    unfold State.disp
    dsimp only
    rw [hDisp]
  · exact leaveEnding_lastCause _ _ _
  · exact leaveEnding_ending _ _ _
  · rw [leaveEnding_state, if_pos hFault]
  · rw [leaveEnding_state, if_neg (by omega), hHolder hIn]
    rfl
  · rw [leaveEnding_state, if_neg (by omega), hAway hOut]
    rfl
  all_goals rw [leaveEnding_stats]
  · rfl
  · rfl
  · exact ite_isFault _ _ _
  · rfl
  · rfl

end Sys2Proof.Machine
end

section
/-!
PROOF. Heat reserved, admitted and charged (O37).
-/

namespace Sys2Proof.Machine

variable {s : State}

/-! ## The admission test (R84) -/

theorem tPco_atMost (s : State) (n : Int) :
    (s.tPco.elim false fun t => decide (t ≤ n)) = true ↔
      ∃ t, (s.chan .precoolOutlet).state = .good ∧ (s.chan .precoolOutlet).value = some t ∧ t ≤ n := by
  unfold State.tPco
  dsimp only
  by_cases hGood : (s.chan .precoolOutlet).state = .good
  · cases hValue : (s.chan .precoolOutlet).value <;> simp [hGood]
  · simp [hGood]

theorem outletAdmits_some {c : PrecoolCfg} {g : Grade} {r : GradeCfg} (hRow : PrecoolCfg.row c g = some r) :
    outletAdmits c s.tPco g = true ↔
      ∃ t, (s.chan .precoolOutlet).state = .good ∧ (s.chan .precoolOutlet).value = some t ∧ t ≤ r.tLim := by
  unfold outletAdmits
  rw [hRow]
  exact tPco_atMost s r.tLim

/-- One grade of a request put to the admission test. -/
def State.admits (s : State) (q : AdmissionRequest) (x : Grade × Figures) : Bool :=
  outletAdmits s.work.precool s.tPco x.1 &&
    reserveAdmits s.work.precool s.precool.reserve (s.precool.others q.disp) q.tAmb x.1 x.2.expected

theorem admissionTest_eq (s : State) (q : AdmissionRequest) : s.admissionTest q = q.figures.find? (s.admits q) := rfl

theorem admits_iff (s : State) (q : AdmissionRequest) (x : Grade × Figures) :
    s.admits q x = true ↔ outletAdmits s.work.precool s.tPco x.1 = true ∧
      (gradeFloor s.work.precool x.1 : Int) ≤ (s.precool.reserve : Int) - s.precool.others q.disp -
        (x.2.expected * heatPerGram s.work.precool q.tAmb x.1 : Nat) := by
  unfold State.admits reserveAdmits
  rw [Bool.and_eq_true, decide_eq_true_iff]

/-- The first grade that the test admits, the grades in their order. -/
theorem admissionTest_first {q : AdmissionRequest} {pre post : List (Grade × Figures)} {x : Grade × Figures}
    (hFigures : q.figures = pre ++ x :: post) (hx : s.admits q x = true) (hPre : ∀ y ∈ pre, ¬s.admits q y = true) :
    s.admissionTest q = some x := by
  rw [admissionTest_eq, List.find?_eq_some_iff_append]
  exact ⟨hx, pre, post, hFigures, fun y hy => by simpa using hPre y hy⟩

theorem admissionTest_none {q : AdmissionRequest} (h : ∀ x ∈ q.figures, ¬s.admits q x = true) : s.admissionTest q = none := by
  rw [admissionTest_eq, List.find?_eq_none]
  exact h

theorem takeAdmission_admitted {q : AdmissionRequest} {x : Grade × Figures} (hList : s.precool.waitList = [])
    (hTest : s.admissionTest q = some x) : s.takeAdmission q = (s.reserve q x.1 x.2, [.enterFuelling q.disp x.1 x.2]) := by
  unfold State.takeAdmission
  rw [hList, hTest]

theorem takeAdmission_waits {q : AdmissionRequest} (h : s.precool.waitList ≠ [] ∨ s.admissionTest q = none) :
    s.takeAdmission q = (s.joinPrecoolList q, []) := by
  unfold State.takeAdmission
  rcases h with hList | hTest
  · cases hWaits : s.precool.waitList with
    | nil => exact absurd hWaits hList
    | cons w ws => rfl
  · rw [hTest]
    split
    · next h => cases h
    · rfl

/-! ## Heat per gram (R81) -/

theorem heatPerGram_row {c : PrecoolCfg} {g : Grade} {k : GradeCfg} (t : Int) (hRow : PrecoolCfg.row c g = some k) :
    heatPerGram c t g = c.cp * (t - k.tPc).toNat / 10 := by
  unfold heatPerGram
  rw [hRow]
  rfl

theorem row_of_mem {c : PrecoolCfg} {g : Grade} {k : GradeCfg}
    (h : (g, k) ∈ [(Grade.a, c.a), (.b, c.b), (.c, c.c)]) : PrecoolCfg.row c g = some k := by
  simp only [List.mem_cons, Prod.mk.injEq, List.not_mem_nil, or_false] at h
  rcases h with ⟨rfl, rfl⟩ | ⟨rfl, rfl⟩ | ⟨rfl, rfl⟩ <;> rfl

theorem heatPerGram_above {c : PrecoolCfg} {g : Grade} {k : GradeCfg} {t : Int} (hRow : PrecoolCfg.row c g = some k)
    (ht : k.tPc ≤ t) : (heatPerGram c t g : Int) = c.cp * (t - k.tPc) / 10 := by
  rw [heatPerGram_row t hRow, Int.natCast_ediv, Int.natCast_mul, Int.toNat_of_nonneg (by omega)]
  rfl

theorem heatPerGram_below {c : PrecoolCfg} {g : Grade} {k : GradeCfg} {t : Int} (hRow : PrecoolCfg.row c g = some k)
    (ht : t ≤ k.tPc) : heatPerGram c t g = 0 := by
  rw [heatPerGram_row t hRow, Int.toNat_of_nonpos (by omega)]
  simp

/-- Settles O37: the figures by their definitions, the admission by the first grade that passes. -/
theorem heatIsReservedAndCharged : Obligations.HeatIsReservedAndCharged := by
  refine ⟨⟨fun c t g k hk => ⟨heatPerGram_above (row_of_mem hk), heatPerGram_below (row_of_mem hk)⟩, fun _ _ => rfl,
    fun _ _ _ _ _ => rfl, fun _ _ _ _ => rfl, fun p d m r hr => ?_⟩, ?_⟩
  · unfold Precool.chargeMass
    rw [hr]
  · intro s q c out held others leaves passes
    have hOthers : s.precool.others q.disp = others := by
      simp [Precool.others, Four.all, others, held, Nat.add_assoc]
    have hPasses : ∀ x, s.admits q x = true ↔ passes x := by
      rintro ⟨g, f⟩
      rw [admits_iff, hOthers]
      cases g with
      | u => exact ⟨fun h => h.2, fun h => ⟨rfl, h⟩⟩
      | a => exact and_congr_left' (outletAdmits_some rfl)
      | b => exact and_congr_left' (outletAdmits_some rfl)
      | c => exact and_congr_left' (outletAdmits_some rfl)
    refine ⟨fun pre x post hFigures hx hPre => ?_, fun hNone => ?_, fun hWaits => ?_⟩
    · have hTest := admissionTest_first hFigures ((hPasses x).2 hx) fun y hy => (hPasses y).not.2 (hPre y hy)
      exact ⟨hTest, fun hList => takeAdmission_admitted hList hTest⟩
    · exact admissionTest_none fun x hx => (hPasses x).not.2 (hNone x hx)
    · exact takeAdmission_waits (hWaits.imp_right fun hNone =>
        admissionTest_none fun x hx => (hPasses x).not.2 (hNone x hx))

end Sys2Proof.Machine
end

section
/-!
PROOF. The connection: pulse, settle, leak hold and planning (O43).
-/

namespace Sys2Proof.Machine

variable {s : State}

/-! ## Changes by their value -/

theorem quad_modify_congr {α : Type} {q : Quad α} {d : Four} {f g : α → α} (h : f (q.get d) = g (q.get d)) :
    q.modify d f = q.modify d g := by
  cases d <;> exact congrArg (q.set _) h

theorem modDisp_congr {d : Four} {f g : Dispenser → Dispenser} (h : f (s.disp d) = g (s.disp d)) :
    s.modDisp d f = s.modDisp d g :=
  congrArg (fun q => { s with disps := q }) (quad_modify_congr h)

theorem modFill_of_fill {d : Four} {x : Fill} (hFill : (s.disp d).fill = some x) (f : Fill → Fill) :
    s.modFill d f = s.modDisp d fun p => { p with fill := some (f x) } :=
  modDisp_congr (f := fun p => { p with fill := p.fill.map f }) (by rw [hFill]; rfl)

theorem fillNozzle_of_fill {d : Four} {x : Fill} (hFill : (s.disp d).fill = some x) : s.fillNozzle d = x.nozzle := by
  unfold State.fillNozzle
  rw [hFill]
  rfl

theorem pCeiling_eq (z : Nozzle) : pCeiling z = if z = .hp then 87500 else 43750 := by cases z <;> rfl

/-! ## The pulse (R114, R116) -/

theorem command_commanded {r : ValveRec} (hOk : r.state = .ok) (l : Level) : (r.command l).1.commanded = l := by
  unfold ValveRec.command
  rw [hOk]
  dsimp only
  split
  · next h => exact h.symm
  · split <;> rfl

theorem answersFaulted_ok {v : Valve} (hOk : (s.valve v).state = .ok) : s.answersFaulted v = false := by
  simp [State.answersFaulted, hOk]

/-- The state that a grant in phase BANK leaves (R114). -/
def State.pulsed (s : State) (d b : Four) : State :=
  (((s.setPcv d (min (pCeiling (s.fillNozzle d)) ((s.pDisp d).getD 0 + 2000))).command (.bv b d) .opened).command
    (.dv d) .opened).modDisp d fun p =>
      { p with state := .connecting .pulse, timers := { p.timers with pulse := some 1000 } }

theorem takeGrant_pulsed {d b : Four} {old : Option Four} (hState : (s.disp d).state = .connecting .bank)
    (hGrant : s.banks.grant.get d = some b) (hBv : (s.valve (.bv b d)).state = .ok) (hDv : (s.valve (.dv d)).state = .ok) :
    s.takeGrant d b old = (s.pulsed d b, []) := by
  unfold State.takeGrant State.beginPulse
  rw [if_pos hGrant, hState, answersFaulted_ok hBv, answersFaulted_ok hDv]
  rfl

theorem valve_pulsed_dv (s : State) (d b : Four) :
    (s.pulsed d b).valve (.dv d) = ((s.valve (.dv d)).command .opened).1 := by
  change (((s.setPcv d _).command (.bv b d) .opened).command (.dv d) .opened).valve (.dv d) = _
  rw [valve_command, if_pos rfl, valve_command, if_neg (by simp)]
  rfl

theorem valve_pulsed_bv (s : State) (d b : Four) :
    (s.pulsed d b).valve (.bv b d) = ((s.valve (.bv b d)).command .opened).1 := by
  change (((s.setPcv d _).command (.bv b d) .opened).command (.dv d) .opened).valve (.bv b d) = _
  rw [valve_command, if_neg (by simp), valve_command, if_pos rfl]
  rfl

theorem disp_pulsed (s : State) (d b : Four) :
    (s.pulsed d b).disp d =
      { s.disp d with state := .connecting .pulse, timers := { (s.disp d).timers with pulse := some 1000 } } :=
  (disp_modDisp _ _ _ _).trans (if_pos rfl)

theorem pcv_pulsed {d : Four} {f : Fill} {p : Nat} (b : Four) (hFill : (s.disp d).fill = some f)
    (hPressure : (s.chan (.primary d)).pressure = some p) :
    (s.pulsed d b).field.pcv.get d = min (if f.nozzle = .hp then 87500 else 43750) (p + 2000) := by
  have hSet : (s.pulsed d b).field.pcv.get d = min (pCeiling (s.fillNozzle d)) ((s.pDisp d).getD 0 + 2000) :=
    (quad_get_set _ _ _ _).trans (if_pos rfl)
  rw [hSet, fillNozzle_of_fill hFill, pCeiling_eq, State.pDisp, hPressure]
  rfl

/-! ## The leak hold (R116) -/

theorem ringLeast_of_least {l : List Nat} {x : Nat} (hx : x ∈ l) (hLeast : ∀ y ∈ l, x ≤ y) : ringLeast l = some x := by
  rw [ringLeast_eq_min?, List.min?_eq_some_iff]
  exact ⟨hx, hLeast⟩

theorem judgeLeak_of_least {d : Four} {f : Fill} {p0 least : Nat} (hFill : (s.disp d).fill = some f) (hP0 : f.p0 = some p0)
    (hLeast : ringLeast (s.disp d).leakRing = some least) :
    s.judgeLeak d =
      let u := s.modDisp d fun q => { q with leakDrop := some (p0 - least), timers := { q.timers with leak := none } }
      if s.work.site.leakDrop < p0 - least then u.endFill d .leak else u.take [.plan d] := by
  unfold State.judgeLeak
  rw [hLeast]
  dsimp only
  rw [hFill, Option.elim_some, hP0, Option.getD_some]

/-! ## The vehicle (R100, R101) -/

theorem classAllows_eq (e : ClassEntry) (z : Nozzle) : classAllows e z = if z = .hp then e.onHp else e.onMp := by
  cases z <;> rfl

/-- Whether AUTO matching takes an entry (R101). -/
def entryAgrees (e : ClassEntry) (z : Nozzle) (code : Nat) : Bool :=
  e.present && (if z = .hp then e.onHp else e.onMp) && decide (code / 2 ^ e.groupWidth = e.tankCode / 2 ^ e.groupWidth)

theorem matchClass_cons (z : Nozzle) (code n : Nat) (e : ClassEntry) (es : List ClassEntry) :
    matchClass z code n (e :: es) = if entryAgrees e z code then some (n, e) else matchClass z code (n + 1) es := by
  unfold entryAgrees
  rw [← classAllows_eq]
  rfl

theorem matchClass_first {z : Nozzle} {code : Nat} {e : ClassEntry} (he : entryAgrees e z code = true) (post : List ClassEntry) :
    ∀ (pre : List ClassEntry) (n : Nat), (∀ x ∈ pre, entryAgrees x z code = false) →
      matchClass z code n (pre ++ e :: post) = some (n + pre.length, e)
  | [], n, _ => by simp [matchClass_cons, he]
  | x :: pre, n, hPre => by
    rw [List.cons_append, matchClass_cons, hPre x List.mem_cons_self,
      matchClass_first he post pre (n + 1) fun y hy => hPre y (List.mem_cons_of_mem x hy), List.length_cons]
    simp only [Bool.false_eq_true, if_false]
    congr 2
    omega

theorem matchClass_none {z : Nozzle} {code : Nat} : ∀ (es : List ClassEntry) (n : Nat),
    (∀ x ∈ es, entryAgrees x z code = false) → matchClass z code n es = none
  | [], _, _ => rfl
  | x :: es, n, h => by
    rw [matchClass_cons, h x List.mem_cons_self]
    exact matchClass_none es (n + 1) fun y hy => h y (List.mem_cons_of_mem x hy)

theorem reportedCapacity_eq (z : Nozzle) (n : Nat) :
    reportedCapacity z n = min 60000 (max 100 (n * if z = .hp then 40 else 24)) := by cases z <;> rfl

/-! ## Planning (R117, R140, R144) -/

theorem leastTarget_spec : ∀ {l : List Nat}, l ≠ [] → leastTarget l ∈ l ∧ ∀ x ∈ l, leastTarget l ≤ x
  | [], h => absurd rfl h
  | [p], _ => ⟨List.mem_singleton.2 rfl, fun x hx => by rw [List.mem_singleton.1 hx]; exact Nat.le_refl p⟩
  | p :: q :: l, _ => by
    obtain ⟨hMem, hLe⟩ := leastTarget_spec (l := q :: l) (List.cons_ne_nil q l)
    have hLeast : leastTarget (p :: q :: l) = min p (leastTarget (q :: l)) := rfl
    rw [hLeast]
    refine ⟨?_, fun x hx => ?_⟩
    · rcases Nat.le_total p (leastTarget (q :: l)) with h | h
      · rw [Nat.min_eq_left h]
        exact List.mem_cons_self
      · rw [Nat.min_eq_right h]
        exact List.mem_cons_of_mem p hMem
    · rcases List.mem_cons.1 hx with rfl | hx
      · exact Nat.min_le_left _ _
      · exact (Nat.min_le_right _ _).trans (hLe x hx)

theorem planFigures_ne_nil {z : Nozzle} {sn : Snapshot} (h : sn.ramp ≠ []) (p0 mLim : Nat) :
    planFigures z sn p0 mLim ≠ [] := by
  unfold planFigures
  simpa using h

theorem ambientStage_some {r : ChanRec} {v : Int} (hValue : r.value = some v) :
    ambientStage r = if (r.state ≠ .good ∧ 6000 < r.age) ∨ 500 < v then none else some (if v < -400 then -400 else v) := by
  have hClamp : max (-400) v = if v < -400 then -400 else v := by omega
  unfold ambientStage
  rw [hValue]
  dsimp only
  rw [hClamp]
  by_cases hOld : r.state ≠ .good ∧ 6000 < r.age
  · rw [if_pos hOld, if_pos (Or.inl hOld)]
  · rw [if_neg hOld]
    by_cases hHot : 500 < v
    · rw [if_pos hHot, if_pos (Or.inr hHot)]
    · rw [if_neg hHot, if_neg (not_or.2 ⟨hOld, hHot⟩)]

theorem takeSnapshot_of_fill {d : Four} {f : Fill} (hFill : (s.disp d).fill = some f) (tAmb : Int) (c : Captured) :
    s.takeSnapshot d tAmb c =
      { tAmb := tAmb, vehicle := s.resolveVehicle d c,
        ramp := (gradesAllowed f.nozzle).map fun g => (g, RampTable.row s.work.ramp f.nozzle g),
        tRef := s.work.site.tRef, socNc := s.work.site.socNc } := by
  unfold State.takeSnapshot
  rw [fillNozzle_of_fill hFill]

/-- The planned dispenser: the receiver's watch state, and the snapshot and the least target in the fill (R102, R117). -/
def State.planned (s : State) (d : Four) (f : Fill) (sn : Snapshot) (least : Nat) : State :=
  (s.modReceiver d fun v =>
    { v with watch := if sn.vehicle.comm = .comm then .pending else .idle, disagree := 0 }).modDisp d fun p =>
      { p with fill := some { f with snapshot := some sn, least := some least } }

theorem plan_planned {d : Four} {f : Fill} {c : Captured} {p0 : Nat} {sale : Sale} {tAmb : Int}
    (hFill : (s.disp d).fill = some f) (hCaptured : (s.disp d).captured = some c) (hP0 : f.p0 = some p0)
    (hSale : (s.meterRec d).sale = some sale) (hAmb : ambientStage (s.chan .ambient) = some tAmb) :
    s.plan d =
      let figures := planFigures f.nozzle (s.takeSnapshot d tAmb c) p0 sale.mLim
      let least := leastTarget (figures.map fun x => x.2.target)
      if least ≤ p0 then (s.planned d f (s.takeSnapshot d tAmb c) least, [.endCause d .fullAtStart])
      else (s.planned d f (s.takeSnapshot d tAmb c) least).takeAdmission ⟨d, tAmb, figures⟩ := by
  unfold State.plan
  rw [hFill, hCaptured, hAmb]
  dsimp only
  rw [hP0, hSale, Option.getD_some, Option.elim_some, modFill_of_fill (s := s.modReceiver d _) hFill]
  unfold State.planned
  cases (s.takeSnapshot d tAmb c).vehicle.comm <;> rfl

theorem resolveVehicle_auto {d : Four} {c : Captured} {r : Report} (hReport : (s.receiver d).freshReport = some r)
    (hSel : (∃ n, c.selection = .autoCls n) ∨ c.selection = .autoUser) :
    s.resolveVehicle d c =
      (matchClass (s.fillNozzle d) r.tankCode 1 s.work.classes).elim
        ⟨.comm, .entry 0, reportedCapacity (s.fillNozzle d) r.capacity, s.work.generic.factor, s.work.generic.pCls,
          s.work.generic.soc.getD s.work.site.socComm⟩
        fun x => ⟨.comm, .entry x.1, x.2.capacity, x.2.factor, x.2.pCls, x.2.soc.getD s.work.site.socComm⟩ := by
  unfold State.resolveVehicle
  rw [hReport]
  rcases hSel with ⟨n, hSel⟩ | hSel
  all_goals
    rw [hSel]
    dsimp only
    cases matchClass (s.fillNozzle d) r.tankCode 1 s.work.classes <;> rfl

theorem plan_noAmbient {d : Four} (h : ambientStage (s.chan .ambient) = none) : s.plan d = (s, [.endCause d .ambient]) := by
  unfold State.plan
  rw [h]
  split
  · next h => cases h
  · rfl

/-- Settles O43: phase by phase, then planning and the resolution of the vehicle. -/
theorem theConnectionIsPulsedSettledAndHeld : Obligations.TheConnectionIsPulsedSettledAndHeld := by
  refine ⟨fun s d b => ⟨fun hState hGrant hBv hDv => ?_, fun hState hTimer hGrant => ?_, fun hState hTimer => ⟨fun p hp hLow => ?_,
    fun p hp hHigh => ?_⟩, fun hState hTimer => ⟨fun hRing => ?_, fun f p0 least hFill hP0 hMem hLeast => ?_⟩⟩,
    fun r => ⟨fun hNone => ?_, fun v hv => ⟨fun hBad => ?_, fun hGood hCool => ?_⟩⟩,
    fun s d f c p0 sale hFill hCaptured hP0 hSale => ⟨plan_noAmbient, fun tAmb hAmb => ?_⟩, fun s d f c hFill => ?_⟩
  · refine ⟨s.pulsed d b, takeGrant_pulsed hState hGrant hBv hDv, ?_, ?_, ?_, ?_, fun f p hFill hp => pcv_pulsed b hFill hp⟩
    · rw [disp_pulsed]
    · rw [disp_pulsed]
    · rw [valve_pulsed_bv]
      exact command_commanded hBv _
    · rw [valve_pulsed_dv]
      exact command_commanded hDv _
  · refine congrArg Host.Outcome.next ((if_pos ⟨hState, hTimer⟩).trans ?_)
    unfold State.endPulse
    rw [hGrant]
  · refine congrArg Host.Outcome.next ((if_pos ⟨hState, hTimer⟩).trans ?_)
    rw [State.pDisp, hp]
    exact if_pos hLow
  · refine congrArg Host.Outcome.next ((if_pos ⟨hState, hTimer⟩).trans ?_)
    rw [State.pDisp, hp]
    exact if_neg (by omega)
  · refine congrArg Host.Outcome.next ((if_pos ⟨hState, hTimer⟩).trans ?_)
    unfold State.judgeLeak
    rw [hRing]
    rfl
  · have hJudge := judgeLeak_of_least hFill hP0 (ringLeast_of_least hMem hLeast)
    refine ⟨fun hDrop => ?_, fun hDrop => ?_⟩
    · exact congrArg Host.Outcome.next ((if_pos ⟨hState, hTimer⟩).trans (hJudge.trans (if_pos hDrop)))
    · exact congrArg Host.Outcome.next ((if_pos ⟨hState, hTimer⟩).trans (hJudge.trans (if_neg (by omega))))
  · unfold ambientStage
    rw [hNone]
  · rw [ambientStage_some hv, if_pos hBad]
  · have hStands : ¬((r.state ≠ .good ∧ 6000 < r.age) ∨ 500 < v) := by
      rintro (⟨hState, hOld⟩ | hHot)
      · exact hGood.elim hState (by omega)
      · omega
    rw [ambientStage_some hv, if_neg hStands]
  · intro sn figures
    have hFigures : (figures.map fun x => x.2.target) ≠ [] := by
      have hRamp : sn.ramp ≠ [] := by
        simp only [sn, gradesAllowed]
        cases f.nozzle <;> simp
      simpa using planFigures_ne_nil hRamp p0 sale.mLim
    obtain ⟨hMem, hLe⟩ := leastTarget_spec hFigures
    refine ⟨leastTarget (figures.map fun x => x.2.target), List.mem_map.1 hMem,
      fun x hx => hLe _ (List.mem_map.2 ⟨x, hx, rfl⟩), ?_⟩
    intro u
    have hPlan := plan_planned hFill hCaptured hP0 hSale hAmb
    rw [takeSnapshot_of_fill hFill] at hPlan
    dsimp only at hPlan
    exact ⟨fun hFull => hPlan.trans (if_pos hFull), fun hRoom => hPlan.trans (if_neg (Nat.not_le.2 hRoom))⟩
  · refine ⟨fun hFresh n => ?_, fun r hFresh => ?_⟩
    · have hReport : (s.receiver d).freshReport = none := hFresh
      unfold State.resolveVehicle
      rw [hReport]
      refine ⟨?_, ?_⟩
      · rintro (hSel | hSel) <;> rw [hSel]
      · rintro (hSel | hSel) <;> rw [hSel]
    · have hReport : (s.receiver d).freshReport = some r := hFresh
      refine ⟨fun n hSel => ?_, fun hSel => ?_, fun hSel => ⟨fun pre e post hClasses he hPre => ?_, fun hNone => ?_⟩⟩
      · unfold State.resolveVehicle
        rw [hReport, hSel]
      · unfold State.resolveVehicle
        rw [hReport, hSel]
      all_goals refine (resolveVehicle_auto hReport hSel).trans ?_
      all_goals rw [fillNozzle_of_fill hFill]
      · rw [hClasses, matchClass_first he post pre 1 hPre, Nat.add_comm 1, Option.elim_some]
      · rw [matchClass_none _ 1 hNone, reportedCapacity_eq, Option.elim_none]

end Sys2Proof.Machine
end

section
/-!
PROOF. The ramp: its steps, the switch tests, the warm outlet and the downgrade (O44).
-/

namespace Sys2Proof.Machine

variable {s : State}

/-! ## The setpoint (R120, R145) -/

theorem commandSetpoint_of_ramp {d : Four} {f : Fill} {r : Ramp} (hFill : (s.disp d).fill = some f)
    (hRamp : f.ramp = some r) : s.commandSetpoint d = s.setPcv d r.setpoint := by
  unfold State.commandSetpoint
  rw [hFill, Option.bind_some, hRamp]

/-- A dispenser given a fill with a ramp, and its setpoint commanded. -/
theorem commandSetpoint_modDisp {d : Four} {g : Dispenser → Dispenser} {f : Fill} {r : Ramp}
    (hFill : (g (s.disp d)).fill = some f) (hRamp : f.ramp = some r) :
    (s.modDisp d g).commandSetpoint d = (s.modDisp d g).setPcv d r.setpoint := by
  refine commandSetpoint_of_ramp ?_ hRamp
  rwa [disp_modDisp, if_pos rfl]

theorem advance_eq (r : Ramp) (held : Bool) :
    r.advance held = { r with k := if held = false ∧ r.setpoint < r.target then r.k + 1 else r.k } := by
  unfold Ramp.advance
  cases held
  · by_cases hBelow : r.setpoint < r.target <;> simp [hBelow]
  · rfl

/-- The bank and precool tests of a step with no bank and no reservation do nothing (R40, R89). -/
theorem switchTests_nothing {d : Four}
    (h : (s.disp d).state ≠ .fuelling ∨ s.banks.grant.get d = none ∨ (s.waitingOn d).isSome = true) :
    s.switchTests d = (s, []) := by
  unfold State.switchTests
  split
  · next hGrant hWaits _ =>
    rcases h with hState | hNone | hWaiting
    · exact if_neg hState
    · rw [hNone] at hGrant
      cases hGrant
    · rw [hWaits] at hWaiting
      cases hWaiting
  · rfl

theorem precoolTest_nothing {d : Four}
    (h : s.precool.table.get d = none ∨
      ∃ q, s.precool.table.get d = some q ∧ (q.grade = none ∨ q.grade = some .u)) : s.precoolTest d = (s, []) := by
  unfold State.precoolTest
  rcases h with hNone | ⟨q, hq, hGrade⟩
  · rw [hNone]
    split
    · next h => cases h
    · rfl
  · rw [hq]
    split
    · next h =>
      cases h
      rcases hGrade with hGrade | hGrade <;> rw [hGrade] <;> rfl
    · rfl

theorem restartRamp_fuelling {d : Four} (hState : (s.disp d).state = .fuelling) :
    s.restartRamp d = s.modTimers d fun m => { m with ramp := some 1000 } := if_pos hState

/-- A step's consequences with no bank and no reservation: the ramp timer restarts. -/
theorem take_step_alone {d : Four} (hState : (s.disp d).state = .fuelling) (hGrant : s.banks.grant.get d = none)
    (hNone : s.precool.table.get d = none) :
    s.take [.rampBank d, .rampPrecool d, .rampRestart d] = s.modTimers d fun m => { m with ramp := some 1000 } := by
  have hBank : s.doTask (.rampBank d) = (s, []) := switchTests_nothing (.inr (.inl hGrant))
  have hPrecool : s.doTask (.rampPrecool d) = (s, []) := precoolTest_nothing (.inl hNone)
  have hRestart : s.doTask (.rampRestart d) = (s.modTimers d fun m => { m with ramp := some 1000 }, []) :=
    congrArg (·, []) (restartRamp_fuelling hState)
  unfold State.take agendaBound
  rw [runTasks_done hBank, runTasks_done hPrecool, runTasks_done hRestart, runTasks_nil]

/-! ## The switch tests (R40) -/

theorem switchTests_tested {d b : Four} {f : Fill} {r : Ramp} (hState : (s.disp d).state = .fuelling)
    (hGrant : s.banks.grant.get d = some b) (hWaits : s.waitingOn d = none) (hFill : (s.disp d).fill = some f)
    (hRamp : f.ramp = some r) :
    s.switchTests d =
      (s.modBanks fun k => { k with lag := k.lag.set d (s.lagAfter d r.setpoint) },
        if s.marginLow d b || decide (s.lagAfter d r.setpoint = 3) then [.walk d none] else []) := by
  unfold State.switchTests
  rw [hGrant, hWaits, hFill, Option.bind_some, hRamp]
  dsimp only
  rw [if_pos hState]
  split <;> rfl

theorem marginLow_iff (s : State) (d b : Four) :
    s.marginLow d b = true ↔
      s.pBank b = none ∨ ∃ pb pd, s.pBank b = some pb ∧ s.pDisp d = some pd ∧ pb < pd + s.work.site.dPSwitch := by
  unfold State.marginLow
  cases s.pBank b with
  | none => simp
  | some pb => cases s.pDisp d <;> simp

theorem lagAfter_lags {d : Four} {pSet : Nat} (h : ∃ pd, s.pDisp d = some pd ∧ pd + s.work.site.lagLimit < pSet) :
    s.lagAfter d pSet = min 3 (s.banks.lag.get d + 1) := by
  obtain ⟨pd, hPd, hLags⟩ := h
  unfold State.lagAfter
  rw [hPd]
  exact if_pos (decide_eq_true hLags)

theorem lagAfter_keeps {d : Four} {pSet : Nat} (h : ¬∃ pd, s.pDisp d = some pd ∧ pd + s.work.site.lagLimit < pSet) :
    s.lagAfter d pSet = 0 := by
  unfold State.lagAfter
  cases hPd : s.pDisp d with
  | none => rfl
  | some pd => exact if_neg fun hLags => h ⟨pd, hPd, of_decide_eq_true hLags⟩

/-! ## The precool test and the downgrade (R89, R90) -/

theorem warmAfter_over {tLim v : Int} {r : ChanRec} {warm : Nat} (hGood : r.state = .good) (hValue : r.value = some v)
    (h : tLim + 20 < v) : warmAfter tLim r warm = min 5 (warm + 1) := by
  unfold warmAfter
  rw [hGood, hValue]
  exact if_pos h

theorem warmAfter_within {tLim v : Int} {r : ChanRec} {warm : Nat} (hGood : r.state = .good) (hValue : r.value = some v)
    (h : v ≤ tLim + 20) : warmAfter tLim r warm = 0 := by
  unfold warmAfter
  rw [hGood, hValue]
  exact if_neg (by omega)

theorem warmAfter_unread {tLim : Int} {r : ChanRec} {warm : Nat} (h : r.state ≠ .good ∨ r.value = none) :
    warmAfter tLim r warm = warm := by
  unfold warmAfter
  split
  · next hGood hValue =>
    rcases h with h | h
    · exact absurd hGood h
    · rw [h] at hValue
      cases hValue
  · rfl

theorem precoolTest_tested {d : Four} {q : Reservation} {g : Grade} {k : GradeCfg} (hState : (s.disp d).state = .fuelling)
    (hTable : s.precool.table.get d = some q) (hGrade : q.grade = some g) (hRow : PrecoolCfg.row s.work.precool g = some k) :
    s.precoolTest d =
      let warm := warmAfter k.tLim (s.chan (.outlet d)) q.warm
      let t := s.modPrecool fun p => { p with table := p.table.set d (some { q with warm := warm }) }
      if warm < 5 then (t, [])
      else (lowerGrade (s.fillNozzle d) g).elim (t, [.endCause d .precoolLost]) (t.downgrade d g) := by
  unfold State.precoolTest
  rw [hState, hTable]
  dsimp only
  rw [hGrade, Option.bind_some, hRow, Option.map_some]
  dsimp only
  cases lowerGrade (s.fillNozzle d) g <;> rfl

/-- The end of a recomputation, by the pressure at the new target (R121, R124). -/
theorem completeTasks_below {d : Four} {f : Fill} {r : Ramp} (hFill : (s.disp d).fill = some f) (hRamp : f.ramp = some r)
    (h : ∀ p, (s.chan (.primary d)).state = .good → (s.chan (.primary d)).pressure = some p → p < r.target) :
    s.completeTasks d = [] := by
  unfold State.completeTasks State.atRampTarget
  rw [hFill, Option.bind_some, hRamp]
  split
  · next hGood hPressure hSome =>
    cases hSome
    exact if_neg (by simpa using h _ hGood hPressure)
  · rfl

theorem completeTasks_at {d : Four} {f : Fill} {r : Ramp} {p : Nat} (hFill : (s.disp d).fill = some f)
    (hRamp : f.ramp = some r) (hGood : (s.chan (.primary d)).state = .good)
    (hPressure : (s.chan (.primary d)).pressure = some p) (h : r.target ≤ p) :
    s.completeTasks d = [.endCause d .complete] := by
  unfold State.completeTasks State.atRampTarget State.pDisp
  rw [hFill, Option.bind_some, hRamp, hGood, hPressure]
  exact if_pos (decide_eq_true h)

theorem ramp_recompute {sn : Snapshot} {g : Grade} {row : RampRow} (r : Ramp) (z : Nozzle) (soc m : Nat)
    (hRow : (sn.ramp.find? fun x => decide (x.1 = g)) = some (g, row)) :
    r.recompute z sn g soc m =
      ⟨g, sn.target z soc row, sn.rate z row, r.expected, min r.setpoint (sn.target z soc row), 0,
        some (r.expected - m)⟩ := by
  unfold Ramp.recompute
  rw [hRow]

theorem fill_recompute {f : Fill} {sn : Snapshot} {r : Ramp} {g : Grade} {row : RampRow} (m : Nat)
    (hSnapshot : f.snapshot = some sn) (hRamp : f.ramp = some r)
    (hRow : (sn.ramp.find? fun x => decide (x.1 = g)) = some (g, row)) :
    f.recompute g (f.snapshot.elim 0 (·.vehicle.soc)) m =
      { f with
        ramp := some ⟨g, sn.target f.nozzle sn.vehicle.soc row, sn.rate f.nozzle row, r.expected,
          min r.setpoint (sn.target f.nozzle sn.vehicle.soc row), 0, some (r.expected - m)⟩ } := by
  obtain ⟨nozzle, startTime, startUnset, currentBank, usage, p0, snapshot, least, ramp, admitted, downgrades, fallback,
    cause⟩ := f
  cases hSnapshot
  cases hRamp
  unfold Fill.recompute
  dsimp only [Option.elim_some]
  rw [ramp_recompute r nozzle sn.vehicle.soc m hRow]

/-- The ramp as a downgrade to `g` sets it (R146, R147), `m` grams delivered. -/
def Ramp.downgradedTo (r : Ramp) (z : Nozzle) (sn : Snapshot) (g : Grade) (row : RampRow) (m : Nat) : Ramp :=
  ⟨g, sn.target z sn.vehicle.soc row, sn.rate z row, r.expected, min r.setpoint (sn.target z sn.vehicle.soc row), 0,
    some (r.expected - m)⟩

/-- The dispenser with the new ramp, its setpoint commanded (R90 steps 1 to 3). -/
def State.rampedDown (s : State) (d : Four) (f : Fill) (sn : Snapshot) (r : Ramp) (row : RampRow) (g' : Grade) : State :=
  let r' := r.downgradedTo f.nozzle sn g' row (s.meterRec d).mass
  (s.modDisp d fun p =>
    { p with
      fill := some { f with downgrades := f.downgrades.map (· + 1), ramp := some r' },
      stats := { p.stats with downgrades := satInc top16 p.stats.downgrades } }).setPcv d r'.base

/-- The state that a downgrade from `g` to `g'` leaves (R90). -/
def State.downgradedTo (s : State) (d : Four) (f : Fill) (sn : Snapshot) (r : Ramp) (row : RampRow) (g g' : Grade) : State :=
  let left := r.expected - (s.meterRec d).mass
  let h := heatPerGram s.work.precool sn.tAmb g'
  { s.rampedDown d f sn r row g' with
    precool := { s.precool with table := s.precool.table.set d (some ⟨some g', h, left * h, 0⟩) },
    link := s.link.post .precoolGrade (.dispenser d) (256 * gradeCode g + gradeCode g') }

theorem downgradedTo_fill (s : State) (d : Four) (f : Fill) (sn : Snapshot) (r : Ramp) (row : RampRow) (g g' : Grade) :
    ((s.downgradedTo d f sn r row g g').disp d).fill = some { f with
      downgrades := f.downgrades.map (· + 1),
      ramp := some (r.downgradedTo f.nozzle sn g' row (s.meterRec d).mass) } :=
  congrArg Dispenser.fill ((quad_get_modify _ _ _ _).trans (if_pos rfl))

/-- The rest of a downgrade once the setpoint is commanded, `u` the state then: the reservation at the new grade and
the notice (R90). -/
def State.bookDowngrade (s u : State) (d : Four) (g g' : Grade) (tAmb : Int) (left : Nat) : State :=
  let h := heatPerGram s.work.precool tAmb g'
  (u.modPrecool fun p =>
    { p with table := p.table.set d (some (Reservation.mk (some g') h (left * h) 0)) }).post .precoolGrade (.dispenser d)
      (detailBytes (gradeCode g) (gradeCode g'))

theorem downgrade_book (s : State) (d : Four) (g g' : Grade) :
    s.downgrade d g g' =
      let u := (s.modDisp d (·.downgraded (s.meterRec d).mass g')).commandSetpoint d
      let t := s.bookDowngrade u d g g' (((u.disp d).fill.bind (·.snapshot)).elim 0 (·.tAmb))
        (((u.disp d).fill.bind (·.ramp)).elim 0 fun r => r.left.getD 0)
      (t, t.completeTasks d) := rfl

theorem downgrade_eq {d : Four} {g g' : Grade} {f : Fill} {sn : Snapshot} {r : Ramp} {row : RampRow}
    (hFill : (s.disp d).fill = some f) (hSnapshot : f.snapshot = some sn) (hRamp : f.ramp = some r)
    (hRow : (sn.ramp.find? fun x => decide (x.1 = g')) = some (g', row)) :
    s.downgrade d g g' =
      (s.downgradedTo d f sn r row g g', (s.downgradedTo d f sn r row g g').completeTasks d) := by
  have hDisp : s.modDisp d (·.downgraded (s.meterRec d).mass g') = s.modDisp d fun p =>
      { p with
        fill := some { f with
          downgrades := f.downgrades.map (· + 1),
          ramp := some (r.downgradedTo f.nozzle sn g' row (s.meterRec d).mass) },
        stats := { p.stats with downgrades := satInc top16 p.stats.downgrades } } := by
    refine modDisp_congr ?_
    unfold Dispenser.downgraded
    rw [hFill, Option.map_some, fill_recompute _ hSnapshot hRamp hRow]
    rfl
  have hBase : (r.downgradedTo f.nozzle sn g' row (s.meterRec d).mass).setpoint =
      (r.downgradedTo f.nozzle sn g' row (s.meterRec d).mass).base := by
    unfold Ramp.downgradedTo Ramp.setpoint
    dsimp only
    rw [Nat.zero_mul, Nat.add_zero]
    exact Nat.min_eq_left (Nat.min_le_right _ _)
  have hFill' := downgradedTo_fill s d f sn r row g g'
  have hAmb : (((s.downgradedTo d f sn r row g g').disp d).fill.bind (·.snapshot)).elim 0 (·.tAmb) = sn.tAmb := by
    rw [hFill', Option.bind_some, hSnapshot, Option.elim_some]
  have hLeft : ((((s.downgradedTo d f sn r row g g').disp d).fill.bind (·.ramp)).elim 0 fun r => r.left.getD 0) =
      r.expected - (s.meterRec d).mass := by
    rw [hFill']
    rfl
  have hCommand : (s.modDisp d (·.downgraded (s.meterRec d).mass g')).commandSetpoint d = s.rampedDown d f sn r row g' := by
    rw [hDisp, commandSetpoint_modDisp rfl rfl, hBase]
    rfl
  have hBook : s.downgradedTo d f sn r row g g' =
      s.bookDowngrade (s.rampedDown d f sn r row g') d g g' sn.tAmb (r.expected - (s.meterRec d).mass) := rfl
  rw [downgrade_book, hCommand, hBook, ← hAmb, ← hLeft]
  rfl

/-- Settles O44: a step, its tests, and the downgrade that the fifth warm step brings. -/
theorem theRampStepsToTheTarget : Obligations.TheRampStepsToTheTarget := by
  refine ⟨fun s d f r hState hTimer hFill hRamp => ?_, fun s d q g k hState hTable hGrade hMem => ?_,
    fun s d h => precoolTest_nothing h, rfl, rfl, rfl, rfl, rfl, rfl, rfl,
    fun s d g g' f sn r row hFill hSnapshot hRamp hRow => ?_,
    fun s d b f r hState hGrant hWaits hFill hRamp => ?_, fun s d h => switchTests_nothing h⟩
  · intro held k pSet u
    have hStep : exec (.rampStep d) s = .next (u.take [.rampBank d, .rampPrecool d, .rampRestart d]) := by
      refine congrArg Host.Outcome.next ((if_pos ⟨hState, hTimer⟩).trans ?_)
      dsimp only
      rw [modFill_of_fill hFill, hRamp, Option.map_some, advance_eq, commandSetpoint_modDisp rfl rfl]
      rfl
    refine ⟨hStep, fun hGrant hNone => ?_, Nat.min_le_right _ _⟩
    rw [hStep, take_step_alone (s := u) ?_ hGrant hNone]
    have hDisp : u.disp d = _ := (disp_modDisp _ _ _ _).trans (if_pos rfl)
    rw [hDisp]
    exact hState
  · intro out
    have hTest := precoolTest_tested hState hTable hGrade (row_of_mem hMem)
    refine ⟨warmAfter k.tLim out q.warm, fun hGood v hv => ⟨warmAfter_over hGood hv, warmAfter_within hGood hv⟩,
      warmAfter_unread, fun hFew => hTest.trans (if_pos hFew), fun hFull hLower => ?_, fun g' hFull hLower => ?_⟩
    · rw [hTest, hLower]
      exact if_neg (Nat.not_lt.2 hFull)
    · rw [hTest, hLower]
      exact if_neg (Nat.not_lt.2 hFull)
  · intro target base left h u t
    have hFill' := downgradedTo_fill s d f sn r row g g'
    have hDown := downgrade_eq (g := g) hFill hSnapshot hRamp hRow
    refine ⟨fun hBelow => ?_, fun p hGood hPressure hAt => ?_⟩
    · rw [hDown, completeTasks_below hFill' rfl hBelow]
      rfl
    · rw [hDown, completeTasks_at hFill' rfl hGood hPressure hAt]
      rfl
  · intro site pSet marginLow lags
    have hTest := switchTests_tested hState hGrant hWaits hFill hRamp
    refine ⟨s.lagAfter d r.setpoint, lagAfter_lags, lagAfter_keeps, fun hDemand => ?_, fun hMargin hLag => ?_⟩
    · rw [hTest, if_pos]
      · rfl
      · rw [Bool.or_eq_true, decide_eq_true_iff]
        exact hDemand.imp_left (marginLow_iff s d b).2
    · rw [hTest, if_neg]
      · rfl
      · rw [Bool.or_eq_true, decide_eq_true_iff]
        exact not_or.2 ⟨(marginLow_iff s d b).not.2 hMargin, hLag⟩

end Sys2Proof.Machine
end

section
/-!
PROOF. Pulses (O48).
-/

namespace Sys2Proof.Machine

variable {s t : State}

theorem count_of_still (h : t.still = s.still) (d : Four) : (t.meterRec d).count = (s.meterRec d).count := by
  have hRecs : t.meter.recs.map MeterRec.count = s.meter.recs.map MeterRec.count :=
    congrArg (fun x => x.2.2.2.1.2.2.2) h
  have hGet := congrArg (fun q => Quad.get q d) hRecs
  rwa [quad_get_map, quad_get_map] at hGet

/-- The count and the mass after a metered pulse. -/
def State.counted (s : State) (d : Four) (m : Nat) : State :=
  s.modMeterRec d fun r => { r with pulses := r.pulses + 1, mass := m }

theorem meterRec_counted (s : State) (d : Four) (m : Nat) :
    (s.counted d m).meterRec d = { s.meterRec d with pulses := (s.meterRec d).pulses + 1, mass := m } :=
  (meterRec_modMeterRec _ _ _ _).trans (if_pos rfl)

/-- The rise charged (R83) and its checkpoint (R171), before the close-ahead test. -/
def State.marked (s : State) (d : Four) (m grams : Nat) : State :=
  let charged := (s.counted d m).modPrecool fun p => p.chargeMass d grams
  if m % 50 = 0 then charged.checkpoint d else charged

theorem meterRec_marked (s : State) (d : Four) (m grams : Nat) :
    (s.marked d m grams).meterRec d = { s.meterRec d with pulses := (s.meterRec d).pulses + 1, mass := m } := by
  unfold State.marked
  dsimp only
  split
  · rw [checkpoint_log]
    exact meterRec_counted s d m
  · exact meterRec_counted s d m

theorem disp_marked (s : State) (d : Four) (m grams : Nat) : (s.marked d m grams).disp d = s.disp d := by
  unfold State.marked
  dsimp only
  split
  · rw [checkpoint_log]
    rfl
  · rfl

theorem handIncrement_counted (s : State) (d : Four) (m grams : Nat) :
    (s.counted d m).handIncrement d grams =
      if (s.disp d).state.running ∧ ((s.marked d m grams).meterRec d).limitReached = true then
        (s.marked d m grams).endFill d .limit
      else s.marked d m grams := by
  have hMass : (((s.counted d m).modPrecool fun p => p.chargeMass d grams).meterRec d).mass = m :=
    congrArg MeterRec.mass (meterRec_counted s d m)
  unfold State.handIncrement
  dsimp only
  rw [hMass]
  change (if ((s.marked d m grams).disp d).state.running = true ∧ ((s.marked d m grams).meterRec d).limitReached = true
    then (s.marked d m grams).endFill d .limit else s.marked d m grams) = _
  simp only [disp_marked]

theorem limitReached_eq {r : MeterRec} {c : Sale} (hSale : r.sale = some c) :
    r.limitReached = decide (closeAheadThreshold c ≤ r.mass) := by
  unfold MeterRec.limitReached
  rw [hSale]
  rfl

theorem limitReached_marked {d : Four} {c : Sale} (hSale : (s.meterRec d).sale = some c) (m grams : Nat) :
    ((s.marked d m grams).meterRec d).limitReached = decide (closeAheadThreshold c ≤ m) := by
  rw [meterRec_marked]
  exact limitReached_eq hSale

theorem kept_handIncrement_counted (s : State) (d : Four) (m grams : Nat) :
    ((s.counted d m).handIncrement d grams).still = (s.marked d m grams).still := by
  rw [handIncrement_counted]
  split
  · exact (kept_endFill (Kept.refl _) d .limit).1
  · rfl

theorem meteredPulse_below {d : Four} (h : (s.meterRec d).pulses < 4294967295) :
    s.meteredPulse d =
      let m := ((s.meterRec d).pulses + 1) * 1000 / s.meter.cal.factors.get d
      if (s.meterRec d).mass < m then (s.counted d m).handIncrement d (m - (s.meterRec d).mass) else s.counted d m :=
  if_pos h

/-- Settles O48: a pulse by the state of the dispenser, the rise handed on, and the flow timer. -/
theorem pulsesAreMetered : Obligations.PulsesAreMetered := by
  intro s d r k m creep charged marked
  have hMetered (hFilling : (s.disp d).state.filling = true) : exec (.meterPulse d) s = .next (s.meteredPulse d) :=
    congrArg Host.Outcome.next (if_pos hFilling)
  have hCreep (hStill : (s.disp d).state.filling = false) : exec (.meterPulse d) s = .next (s.creepPulse d) :=
    congrArg Host.Outcome.next (if_neg (by rw [hStill]; decide))
  refine ⟨fun hFilling hFull => ?_, fun hFilling hBelow => ?_, fun hStill hFew => ?_, fun hStill hMany => ?_, rfl⟩
  · rw [hMetered hFilling]
    have hTop : ¬(s.meterRec d).pulses < top32 := fun h => absurd hFull (Nat.ne_of_lt h)
    exact congrArg Host.Outcome.next (if_neg hTop)
  · have hPulse := meteredPulse_below hBelow
    rw [hMetered hFilling, hPulse]
    refine ⟨⟨_, rfl, ?_⟩, fun hSame => congrArg Host.Outcome.next (if_neg (Nat.not_lt.2 hSame)), fun hRise => ?_⟩
    · have hCount : ∀ u : State, u.still = (s.counted d m).still ∨ u.still = (s.marked d m (m - r.mass)).still →
          (u.meterRec d).pulses = r.pulses + 1 ∧ (u.meterRec d).mass = m := by
        intro u hu
        have hCounted : (u.meterRec d).count = MeterRec.count { r with pulses := r.pulses + 1, mass := m } := by
          rcases hu with hu | hu
          · rw [count_of_still hu, meterRec_counted]
          · rw [count_of_still hu, meterRec_marked]
        exact ⟨congrArg (·.1) hCounted, congrArg (·.2.1) hCounted⟩
      refine hCount _ ?_
      dsimp only
      split
      · exact .inr (kept_handIncrement_counted _ _ _ _)
      · exact .inl rfl
    · have hHand : s.meteredPulse d = if (s.disp d).state.running ∧ (marked.meterRec d).limitReached = true then
          marked.endFill d .limit else marked := by
        rw [hPulse]
        exact (if_pos hRise).trans (handIncrement_counted _ _ _ _)
      rw [← hPulse, hHand]
      refine ⟨fun c hSale hShort => ?_, fun c hSale hReached hRun => ?_, fun hEnding => ?_⟩
      · have hLimit : (marked.meterRec d).limitReached = decide (closeAheadThreshold c ≤ m) := limitReached_marked hSale _ _
        rw [if_neg fun h => ?_]
        rw [hLimit] at h
        exact absurd (of_decide_eq_true h.2) (Nat.not_le.2 hShort)
      · have hLimit : (marked.meterRec d).limitReached = decide (closeAheadThreshold c ≤ m) := limitReached_marked hSale _ _
        rw [if_pos ⟨hRun, hLimit.trans (decide_eq_true hReached)⟩]
      · rw [if_neg fun h => ?_]
        rw [hEnding] at h
        exact absurd h.1 (by decide)
  · rw [hCreep hStill]
    refine congrArg Host.Outcome.next ((if_neg (Nat.not_le.2 hFew)).trans ?_)
    exact congrArg (fun q => { s with meter := { s.meter with recs := q } }) (quad_modify_congr rfl)
  · rw [hCreep hStill]
    exact congrArg Host.Outcome.next (if_pos hMany)

end Sys2Proof.Machine
end

section
/-!
PROOF. The calibration session (O49).
-/

namespace Sys2Proof.Machine

variable {s u : State}

/-- An offered request whose owner answers. -/
theorem takeRequest_answered {kind tag : Byte} {body : List Byte} {owner : Owner} {t : State} {a : Answer}
    (h : s.Offers kind tag body u) (hn : bodyLength kind.toNat = some body.length)
    (hf : firstBad (fieldChecks kind.toNat body) = none) (ho : owner u = (t, some a)) :
    s.takeRequest kind tag body owner = t.sendReply a :=
  (takeRequest_offered owner h hn hf).trans (serveRequest_answered ho)

/-- An offered request whose owner answers by a function of the state. -/
theorem takeRequest_answering {kind tag : Byte} {body : List Byte} {f : State → State × Answer} {t : State} {a : Answer}
    (h : s.Offers kind tag body u) (hn : bodyLength kind.toNat = some body.length)
    (hf : firstBad (fieldChecks kind.toNat body) = none) (ho : f u = (t, a)) :
    s.takeRequest kind tag body (answering f) = t.sendReply a :=
  takeRequest_answered h hn hf (by rw [answering, ho])

/-- An offered request of one dispenser or bank whose owner answers. -/
theorem takeRequest_ownerOf {kind tag : Byte} {body : List Byte} {d : Four} {f : Four → State → State × Answer} {t : State}
    {a : Answer} (h : s.Offers kind tag body u) (hn : bodyLength kind.toNat = some body.length)
    (hf : firstBad (fieldChecks kind.toNat body) = none) (ho : f d u = (t, a)) :
    s.takeRequest kind tag body (ownerOf (Four.field d) f) = t.sendReply a := by
  refine takeRequest_answered h hn hf ?_
  rw [ownerOf, namedFour_field]
  exact congrArg (fun p : State × Answer => (p.1, some p.2)) ho

theorem forecourtAtRest_iff (s : State) :
    s.forecourtAtRest = true ↔
      ∀ d, (s.disp d).state = .closed ∨ (s.disp d).state = .idle ∨ (s.disp d).state = .fault := by
  have hAll : s.forecourtAtRest = true ↔ ∀ d ∈ Four.all, (decide ((s.disp d).state = .closed) ||
      decide ((s.disp d).state = .idle) || decide ((s.disp d).state = .fault)) = true :=
    List.all_eq_true.trans ⟨fun h d _ => h _ (by cases d <;> simp [State.disp, Quad.get, Quad.toList]), fun h x hx => by
      simp only [Quad.toList, List.mem_cons, List.not_mem_nil, or_false] at hx
      rcases hx with rfl | rfl | rfl | rfl
      · exact h .one (four_mem_all _)
      · exact h .two (four_mem_all _)
      · exact h .three (four_mem_all _)
      · exact h .four (four_mem_all _)⟩
  rw [hAll]
  simp [four_mem_all, or_assoc]

theorem calWriteChecks (d : Four) {k : Half} (hLow : 1000 ≤ k.toNat) (hHigh : k.toNat ≤ 60000) :
    firstBad (fieldChecks (0x51 : Byte).toNat ([Four.field d] ++ half2 k)) = none := by
  have hFirst : fieldAt ([Four.field d] ++ half2 k) 0 1 = (Four.field d).toNat := fieldAt_first _ _
  have hSecond : fieldAt ([Four.field d] ++ half2 k) 1 2 = k.toNat := fieldAt_half2_one _ _
  change firstBad [(1, between 1 4 (fieldAt ([Four.field d] ++ half2 k) 0 1)),
    (2, between 1000 60000 (fieldAt ([Four.field d] ++ half2 k) 1 2))] = none
  rw [hFirst, hSecond]
  refine firstBad_none fun c hc => ?_
  simp only [List.mem_cons, List.not_mem_nil, or_false] at hc
  rcases hc with rfl | rfl
  · exact between_field d
  · exact between_eq_true.2 ⟨hLow, hHigh⟩

theorem calCloseStored {r : CalRecord} (hSession : s.meter.session = .storing r) :
    exec .calCloseStoreComplete s =
      .next (((s.modMeter fun m => { m with cal := r, damaged := false, session := .none }).modSup fun u =>
        { u with latches := u.latches.set .metrology false }).sendReply (okData (.calClosed r.audit r.check))) := by
  change execCalCloseStoreComplete s = _
  unfold execCalCloseStoreComplete
  rw [hSession]

/-- Settles O49: each owner by the session, and the store's completion. -/
theorem calibrationOpensWritesAndCloses : Obligations.CalibrationOpensWritesAndCloses := by
  intro s u g ok rest
  have hRest := forecourtAtRest_iff u
  refine ⟨fun h => ⟨fun hSession => ?_, fun hSession hSeal => ?_, fun hSession hSeal hBusy => ?_,
    fun hSession hSeal hQuiet hAudit => ?_, fun hSession hSeal hQuiet hAudit => ?_⟩,
    fun d k hLow hHigh h => ⟨fun staged hSession => ?_, fun hSession => ?_⟩,
    fun h => ⟨fun hSession => ?_, fun staged hSession => ?_⟩, fun r hSession hBuffer => ?_⟩
  · refine congrArg Host.Outcome.next (takeRequest_answering h rfl rfl ?_)
    exact if_pos hSession
  · refine congrArg Host.Outcome.next (takeRequest_answering h rfl rfl ?_)
    exact (if_neg (not_not.2 hSession)).trans (if_pos hSeal)
  · refine congrArg Host.Outcome.next (takeRequest_answering h rfl rfl ?_)
    exact (if_neg (not_not.2 hSession)).trans ((if_neg (not_not.2 hSeal)).trans
      (if_pos (by simpa using hRest.not.2 hBusy)))
  · refine congrArg Host.Outcome.next (takeRequest_answering h rfl rfl ?_)
    exact (if_neg (not_not.2 hSession)).trans ((if_neg (not_not.2 hSeal)).trans
      ((if_neg (by simpa using hRest.2 hQuiet)).trans (if_pos hAudit)))
  · refine congrArg Host.Outcome.next (takeRequest_answering h rfl rfl ?_)
    exact (if_neg (not_not.2 hSession)).trans ((if_neg (not_not.2 hSeal)).trans
      ((if_neg (by simpa using hRest.2 hQuiet)).trans (if_neg (Nat.not_le.2 hAudit))))
  · refine congrArg Host.Outcome.next (takeRequest_ownerOf h rfl (calWriteChecks d hLow hHigh) ?_)
    unfold State.calWrite
    rw [hSession]
    rfl
  · refine congrArg Host.Outcome.next (takeRequest_ownerOf h rfl (calWriteChecks d hLow hHigh) ?_)
    unfold State.calWrite
    rw [hSession]
    rfl
  · refine congrArg Host.Outcome.next (takeRequest_answered h rfl rfl ?_)
    unfold State.calClose
    rw [hSession]
    rfl
  · refine ⟨newCalRecord u.meter.cal staged, rfl, newCalRecord_agrees _ _, rfl, ?_⟩
    have hOwner : State.calClose u =
        (u.modMeter fun m => { m with session := .storing (newCalRecord m.cal staged) }, none) := by
      unfold State.calClose
      rw [hSession]
    refine congrArg Host.Outcome.next ((takeRequest_offered _ h rfl rfl).trans ((serveRequest_storing hOwner).trans ?_))
    unfold State.modLink
    dsimp only
    rw [State.modMeter_link, Offers.buffer h]
    rfl
  · refine ⟨_, calCloseStored hSession, rfl, rfl, replies_sendReply (v := .storing) _ hBuffer, rfl⟩

end Sys2Proof.Machine
end

section
/-!
PROOF. SETTLE (O50) and the stores of the transaction log (O51).
-/

namespace Sys2Proof.Machine

variable {s t u : State}

/-! ## The marks (R170) -/

/-- LOG_NEAR_FULL and LOG_FULL, as a count posts them. -/
def State.markedLink (s : State) (n : Nat) : Link :=
  let l := if 56 ≤ n ∧ s.log.nearFull = false then s.link.post .logNearFull .station n else s.link
  if 64 ≤ n ∧ s.log.full = false then l.post .logFull .station n else l

theorem testMarks_eq (s : State) :
    s.testMarks =
      { s with
        link := s.markedLink s.log.ring.length,
        log := { s.log with nearFull := decide (56 ≤ s.log.ring.length), full := decide (64 ≤ s.log.ring.length) } } := by
  unfold State.testMarks State.markedLink
  simp only [Bool.and_eq_true, decide_eq_true_eq, Bool.not_eq_true']
  split <;> split <;> rfl

theorem post_buffer (l : Link) (k : NoticeKind) (c : Source) (n : Nat) : (l.post k c n).buffer = l.buffer := by
  unfold Link.post
  split <;> rfl

theorem markedLink_buffer (s : State) (n : Nat) : (s.markedLink n).buffer = s.link.buffer := by
  unfold State.markedLink
  dsimp only
  split <;> split <;> simp [post_buffer]

theorem markedLink_few {n : Nat} (h : n < 56) : s.markedLink n = s.link := by
  unfold State.markedLink
  rw [if_neg (by omega), if_neg (by omega)]

/-! ## SETTLE (R175, R176) -/

theorem reclaim_eq_dropWhile : ∀ ring : List LogEntry, reclaim ring = ring.dropWhile fun e => decide (e.state = .settled)
  | [] => rfl
  | e :: rest => by
    rw [List.dropWhile_cons, ← reclaim_eq_dropWhile rest]
    simp [reclaim]

/-- The log after a settling, before the marks are tested. -/
def TransLog.settling (g : TransLog) (n : Nat) : TransLog :=
  let ring := reclaim (changeEntry n (fun e => { e with state := .settled }) g.ring)
  { g with ring := ring, stores := g.stores ++ [.settle n (ring.head?.elim g.counter (·.number))] }

theorem settleEntry_eq (s : State) (n : Nat) : s.settleEntry n = State.testMarks { s with log := s.log.settling n } := rfl

/-- Settles O50: the owner by the entry's state, then the store's completion. -/
theorem settleAnswersByTheEntrysState : Obligations.SettleAnswersByTheEntrysState := by
  refine ⟨fun s u g n h => ⟨fun hNone => ?_, fun e he => ⟨fun hState => ?_, fun hState => ?_, fun hState => ?_⟩⟩,
    fun s n tail rest hStores => ?_⟩
  · have hFind : findEntry n.toNat u.log.ring = none := by simpa [findEntry] using hNone
    refine congrArg Host.Outcome.next (takeRequest_answering h rfl rfl ?_)
    unfold State.settle
    rw [hFind]
    rfl
  · refine congrArg Host.Outcome.next (takeRequest_answering h rfl rfl ?_)
    unfold State.settle
    rw [he]
    dsimp only
    rw [hState]
    rfl
  · refine congrArg Host.Outcome.next (takeRequest_answering h rfl rfl ?_)
    unfold State.settle
    rw [he]
    dsimp only
    rw [hState]
    rfl
  · have hSettle : u.settle n.toNat = (u.settleEntry n.toNat, okAnswer) := by
      unfold State.settle
      rw [he]
      dsimp only
      rw [hState]
    refine ⟨_, congrArg Host.Outcome.next (takeRequest_answering h rfl rfl hSettle), ?_⟩
    have hEq := (settleEntry_eq u n.toNat).trans (testMarks_eq _)
    have hBuffer : (u.settleEntry n.toNat).link.buffer = some ⟨0x42, g, word4 n, .waiting⟩ := by
      rw [hEq]
      exact (markedLink_buffer _ _).trans (Offers.buffer (u := u) h)
    refine ⟨?_, ?_, ?_, ?_, replies_sendReply (v := .waiting) _ hBuffer, ?_⟩
    · rw [hEq]
      exact reclaim_eq_dropWhile _
    all_goals rw [hEq]
    all_goals rfl
  · change execLogEntryStoreComplete s = _
    unfold execLogEntryStoreComplete
    rw [hStores]
    rfl

end Sys2Proof.Machine
end

section
/-!
PROOF. The stores of the transaction log complete (O51).
-/

namespace Sys2Proof.Machine

variable {s t u : State}

/-! ## Creation and closing (R169, R173) -/

/-- The log once a creation's store is complete, before the marks are tested. -/
def TransLog.created (g : TransLog) (c : Creation) (rest : List EntryStore) : TransLog :=
  { g with
    ring := g.ring ++ [c.entry], stored := g.stored ++ [c.stored], counter := g.counter + 1, creation := none,
    own := g.own.set c.entry.disp (some c.entry.number), stores := rest }

theorem logEntryStored_create {c : Creation} {rest : List EntryStore} (hCreation : s.log.creation = some c)
    (hOpen : c.entry.state = .opened) (hStores : s.log.stores = .create :: rest) :
    exec .logEntryStoreComplete s =
      .next ((State.testMarks { s with log := s.log.created c rest }).sendReply c.answer) := by
  change execLogEntryStoreComplete s = _
  unfold execLogEntryStoreComplete
  rw [hStores, hCreation]
  dsimp only
  unfold State.completeCreation
  rw [hOpen]
  rfl

theorem logEntryStored_close {e : LogEntry} {rest : List EntryStore} (hStores : s.log.stores = .close e :: rest) :
    exec .logEntryStoreComplete s =
      .next { s with log := { s.log with
        stores := rest, stored := changeEntry e.number (fun _ => e) s.log.stored } } := by
  change execLogEntryStoreComplete s = _
  unfold execLogEntryStoreComplete
  rw [hStores]
  rfl

/-! ## Checkpoints (R171, R172) -/

theorem creating_false {n : Nat} (h : ∀ c, s.log.creation = some c → c.entry.number ≠ n) : s.log.creating n = false := by
  unfold TransLog.creating
  cases hCreation : s.log.creation with
  | none => rfl
  | some c => exact decide_eq_false (h c hCreation)

theorem checkpointStored {d : Four} {w : CheckpointStore} (hStore : s.log.checkpoints.get d = some w)
    (h : ∀ c, s.log.creation = some c → c.entry.number ≠ w.writing.number) :
    exec (.checkpointStoreComplete d) s =
      .next { s with log := { s.log with
        stored := applyImage s.log.stored w.writing,
        checkpoints := s.log.checkpoints.set d (w.waiting.map fun e => ⟨e, none⟩) } } := by
  change execCheckpointStoreComplete d s = _
  unfold execCheckpointStoreComplete
  rw [hStore]
  dsimp only
  rw [creating_false h]
  rfl

theorem checkpoint_none {d : Four} (h : s.log.ownEntry d = none) : s.checkpoint d = s := by
  unfold State.checkpoint
  rw [h]

theorem checkpoint_of_own {d : Four} {n : Nat} {e : LogEntry} (hOwn : s.log.own.get d = some n)
    (he : findEntry n s.log.ring = some e) :
    s.checkpoint d =
      s.modLog fun g =>
        TransLog.storeImage { g with ring := changeEntry n (fun _ => s.checkpointed d e) g.ring } d (s.checkpointed d e) := by
  unfold State.checkpoint
  rw [(ownEntry_of_own hOwn).trans he]
  dsimp only
  unfold State.modLog
  dsimp only
  rw [modOwn_of_own hOwn]

theorem group_eq (f : Fill) :
    f.group = f.least.bind fun least =>
      f.snapshot.map fun sn => ((f.ramp.map (·.target)).getD least, sn.vehicle.comm) := by
  unfold Fill.group
  cases f.least with
  | none => rfl
  | some least =>
    cases f.snapshot with
    | none => rfl
    | some sn => cases f.ramp <;> rfl

theorem checkpointed_eq {d : Four} {p : Sale} {f : Fill} (hSale : (s.meterRec d).sale = some p)
    (hFill : (s.disp d).fill = some f) (e : LogEntry) :
    s.checkpointed d e =
      { { e with
          mass := (s.meterRec d).mass, billed := min (amount (s.meterRec d).mass p.price) p.cap }.copyFill f with
        held := s.holdsLast d f.usage } := by
  unfold State.checkpointed
  rw [hFill]
  dsimp only
  rw [hSale]
  rfl

/-! ## Recovery (R177) -/

theorem recoveredUsage_unheld : ∀ (m : Nat) (us : List UsageItem), recoveredUsage m us false = us
  | _, [] => rfl
  | m, i :: us => by
    cases us with
    | nil => rfl
    | cons j us => exact congrArg (i :: ·) (recoveredUsage_unheld (m - i.grams) (j :: us))

theorem recoveredUsage_held (last : UsageItem) : ∀ (m : Nat) (us : List UsageItem),
    recoveredUsage m (us ++ [last]) true = us ++ [{ last with grams := m - (us.map (·.grams)).sum }]
  | _, [] => rfl
  | m, i :: us => by
    have hRest := recoveredUsage_held last (m - i.grams) us
    have hSplit : recoveredUsage m (i :: us ++ [last]) true = i :: recoveredUsage (m - i.grams) (us ++ [last]) true := by
      cases us <;> rfl
    rw [hSplit, hRest, List.map_cons, List.sum_cons, Nat.sub_sub]
    rfl

/-- The log with a recovered entry stored whole. -/
def TransLog.recoveredIn (g : TransLog) (e : LogEntry) : TransLog :=
  { g with ring := changeEntry e.number (fun _ => e) g.ring, stored := changeEntry e.number (fun _ => e) g.stored }

theorem logRecoveryStored {e : LogEntry} (h : s.log.recovering = some e) :
    exec .logRecoveryStoreComplete s = .next (State.recoverNext { s with log := s.log.recoveredIn e }) := by
  change execLogRecoveryStoreComplete s = _
  unfold execLogRecoveryStoreComplete
  rw [h]
  rfl

theorem recoverNext_some {x : LogEntry} (h : firstOpen s.log.ring = some x) :
    s.recoverNext = { s with log := { s.log with recovering := some (s.recovered x) } } := by
  unfold State.recoverNext
  rw [h]
  rfl

theorem recoverNext_none (h : firstOpen s.log.ring = none) :
    s.recoverNext =
      ((State.testMarks { s with log := { s.log with recovering := none } }).modSup fun u =>
        { u with station := .startUp .s4 }).beginSweep := by
  unfold State.recoverNext
  rw [h]
  rfl

theorem recoverNext_rings (s : State) : s.recoverNext.log.ring = s.log.ring ∧ s.recoverNext.log.stored = s.log.stored := by
  cases h : firstOpen s.log.ring with
  | some x =>
    rw [recoverNext_some h]
    exact ⟨rfl, rfl⟩
  | none =>
    rw [recoverNext_none h, testMarks_eq]
    exact ⟨rfl, rfl⟩

theorem firstOpen_none {ring : List LogEntry} (h : ∀ x ∈ ring, x.state ≠ .opened) : firstOpen ring = none := by
  simpa [firstOpen] using h

/-- Settles O51: each completion by what stands in the store, the marks, and the checkpoint written out. -/
theorem theLogsStoresComplete : Obligations.TheLogsStoresComplete := by
  refine ⟨fun s => ⟨fun c rest g body hCreation hOpen hStores hFew hBuffer => ?_, fun e rest hStores =>
    logEntryStored_close hStores, fun d w hStore hOther => checkpointStored hStore hOther, fun e hRecovering => ?_⟩,
    fun s c rest hCreation hOpen hStores => logEntryStored_create hCreation hOpen hStores, testMarks_eq,
    fun s d h => checkpoint_none h, fun s d n e p f hOwn he hSale hFill => ?_⟩
  · have hCount : (s.log.created c rest).ring.length < 56 := by
      unfold TransLog.created
      simp only [List.length_append, List.length_singleton]
      omega
    refine ⟨_, logEntryStored_create hCreation hOpen hStores, ?_⟩
    rw [testMarks_eq]
    dsimp only
    rw [markedLink_few hCount, decide_eq_false (by omega), decide_eq_false (by omega)]
    exact ⟨rfl, replies_sendReply (v := .storing) _ hBuffer, rfl⟩
  · have hRings := recoverNext_rings { s with log := s.log.recoveredIn e }
    refine ⟨_, logRecoveryStored hRecovering, hRings.1, hRings.2, fun hClosed => ?_, fun x hx => ?_⟩
    · rw [hRings.1] at hClosed
      rw [recoverNext_none (firstOpen_none hClosed), testMarks_eq]
      exact ⟨rfl, rfl, rfl⟩
    · rw [hRings.1] at hx
      rw [recoverNext_some hx]
      refine ⟨_, rfl, rfl, rfl, rfl, rfl, rfl, rfl, rfl, rfl, rfl, rfl, fun hPlain => ?_, fun before last hHeld hUsage => ?_,
        rfl⟩
      · change recoveredUsage x.mass x.usage x.held = x.usage
        rcases hPlain with hHeld | hUsage
        · rw [hHeld]
          exact recoveredUsage_unheld _ _
        · rw [hUsage]
          rfl
      · change recoveredUsage x.mass x.usage x.held = _
        rw [hHeld, hUsage]
        exact recoveredUsage_held last _ _
  · intro m e'
    have hImage : s.checkpointed d e = e' := by
      rw [checkpointed_eq hSale hFill]
      unfold LogEntry.copyFill
      rw [group_eq]
      rfl
    rw [checkpoint_of_own hOwn he, hImage]
    unfold State.modLog TransLog.storeImage
    dsimp only
    cases s.log.checkpoints.get d <;> rfl

end Sys2Proof.Machine
end

section
/-!
PROOF. Vehicle reports: judged and kept (O33), acted on while watched (O34).
-/

namespace Sys2Proof.Machine

variable {s u : State}

/-! ## The judgement of a report (R98) -/

theorem vehicleCommand_some {n : Nat} (h : n ≤ 2) :
    vehicleCommand n = some (if n = 0 then .run else if n = 1 then .halt else .abort) := by
  have hCases : n = 0 ∨ n = 1 ∨ n = 2 := by omega
  rcases hCases with rfl | rfl | rfl <;> rfl

theorem vehicleCommand_none {n : Nat} (h : 2 < n) : vehicleCommand n = none := by
  match n with
  | n + 3 => rfl

theorem beValue_take_two_lt (l : List Byte) : beValue (l.take 2) < 65536 := by
  match l with
  | [] => decide
  | [a] =>
    have ha := a.isLt
    simp only [beValue, List.take_succ_cons, List.take_nil, List.foldl_cons, List.foldl_nil]
    omega
  | a :: b :: l =>
    have ha := a.isLt
    have hb := b.isLt
    simp only [beValue, List.take_succ_cons, List.take_zero, List.foldl_cons, List.foldl_nil]
    omega

theorem beSigned16_eq (l : List Byte) :
    beSigned16 (l.take 2) =
      if beValue (l.take 2) < 32768 then (beValue (l.take 2) : Int) else beValue (l.take 2) - 65536 := by
  have hLt := beValue_take_two_lt l
  unfold beSigned16
  rw [BitVec.toInt_eq_toNat_cond, BitVec.toNat_ofNat, Nat.mod_eq_of_lt hLt]
  split <;> split <;> omega

/-- The figures of a report within their ranges (R98). -/
def figuresInRange (capacity pRep : Nat) (tRep : Int) (command : Nat) : Prop :=
  1 ≤ capacity ∧ capacity ≤ 2000 ∧ pRep ≤ 100000 ∧ -600 ≤ tRep ∧ tRep ≤ 1000 ∧ command ≤ 2

/-- A report frame whose length and check agree (R98). -/
def reportSound (bs : List Byte) : Prop := bs.length = 14 ∧ (crc16 (bs.take 12)).toNat = fieldAt bs 12 2

/-- The report that a frame's bytes hold (section 6.3). -/
def reportRead (bs : List Byte) : Report :=
  ⟨fieldAt bs 0 3, fieldAt bs 3 2, fieldAt bs 5 4, beSigned16 ((bs.drop 9).take 2),
    if fieldAt bs 11 1 = 0 then .run else if fieldAt bs 11 1 = 1 then .halt else .abort⟩

def reportInRange (bs : List Byte) : Prop :=
  figuresInRange (fieldAt bs 3 2) (fieldAt bs 5 4) (beSigned16 ((bs.drop 9).take 2)) (fieldAt bs 11 1)

theorem judgeReport_unsound {bs : List Byte} (h : ¬reportSound bs) : judgeReport bs = .checkFails := by
  unfold judgeReport
  by_cases hLength : bs.length = 14
  · rw [if_neg (not_not.2 hLength), if_pos fun hCheck => h ⟨hLength, hCheck⟩]
  · rw [if_pos hLength]

theorem judgeReport_sound {bs : List Byte} (h : reportSound bs) :
    (reportInRange bs → judgeReport bs = .valid (reportRead bs)) ∧ (¬reportInRange bs → judgeReport bs = .outOfRange) := by
  have hRange : (between 1 2000 (fieldAt bs 3 2) && decide (fieldAt bs 5 4 ≤ 100000) &&
      decide (-600 ≤ beSigned16 ((bs.drop 9).take 2)) && decide (beSigned16 ((bs.drop 9).take 2) ≤ 1000)) = true ↔
      (1 ≤ fieldAt bs 3 2 ∧ fieldAt bs 3 2 ≤ 2000) ∧ fieldAt bs 5 4 ≤ 100000 ∧
        -600 ≤ beSigned16 ((bs.drop 9).take 2) ∧ beSigned16 ((bs.drop 9).take 2) ≤ 1000 := by
    simp only [Bool.and_eq_true, between_eq_true, decide_eq_true_iff]
    tauto
  unfold judgeReport
  rw [if_neg (not_not.2 h.1), if_neg (not_not.2 h.2)]
  by_cases hCommand : fieldAt bs 11 1 ≤ 2
  · dsimp only
    rw [vehicleCommand_some hCommand]
    refine ⟨fun hIn => ?_, fun hOut => ?_⟩
    · obtain ⟨hLow, hHigh, hPRep, hCold, hHot, -⟩ := hIn
      exact if_pos (hRange.2 ⟨⟨hLow, hHigh⟩, hPRep, hCold, hHot⟩)
    · refine if_neg fun hIn => hOut ?_
      obtain ⟨⟨hLow, hHigh⟩, hPRep, hCold, hHot⟩ := hRange.1 hIn
      exact ⟨hLow, hHigh, hPRep, hCold, hHot, hCommand⟩
  · dsimp only
    rw [vehicleCommand_none (Nat.not_le.1 hCommand)]
    refine ⟨fun hIn => absurd ?_ hCommand, fun _ => rfl⟩
    obtain ⟨-, -, -, -, -, hIn⟩ := hIn
    exact hIn

theorem judgeReport_checkFails {bs : List Byte} : judgeReport bs = .checkFails ↔ ¬reportSound bs := by
  refine ⟨fun h hSound => ?_, judgeReport_unsound⟩
  by_cases hIn : reportInRange bs
  · rw [(judgeReport_sound hSound).1 hIn] at h
    cases h
  · rw [(judgeReport_sound hSound).2 hIn] at h
    cases h

theorem judgeReport_outOfRange {bs : List Byte} :
    judgeReport bs = .outOfRange ↔ reportSound bs ∧ ¬reportInRange bs := by
  refine ⟨fun h => ?_, fun ⟨hSound, hOut⟩ => (judgeReport_sound hSound).2 hOut⟩
  have hSound : reportSound bs := by
    by_contra hUnsound
    rw [judgeReport_unsound hUnsound] at h
    cases h
  refine ⟨hSound, fun hIn => ?_⟩
  rw [(judgeReport_sound hSound).1 hIn] at h
  cases h

theorem judgeReport_valid {bs : List Byte} {r : Report} :
    judgeReport bs = .valid r ↔ reportSound bs ∧ reportInRange bs ∧ r = reportRead bs := by
  refine ⟨fun h => ?_, fun ⟨hSound, hIn, hRead⟩ => hRead ▸ (judgeReport_sound hSound).1 hIn⟩
  have hSound : reportSound bs := by
    by_contra hUnsound
    rw [judgeReport_unsound hUnsound] at h
    cases h
  by_cases hIn : reportInRange bs
  · rw [(judgeReport_sound hSound).1 hIn] at h
    exact ⟨hSound, hIn, (ReportJudgement.valid.inj h).symm⟩
  · rw [(judgeReport_sound hSound).2 hIn] at h
    cases h

/-! ## A report taken (R98, R99, R102) -/

/-- The receiver with a valid report kept. -/
def State.keptReport (s : State) (d : Four) (r : Report) : State :=
  s.modReceiver d fun v => { v with last := some r, age := 0, fresh := some 2000, valid := satInc top16 v.valid }

theorem vehicleReport_valid {d : Four} {bs : List Byte} {r : Report} (h : judgeReport bs = .valid r) :
    exec (.vehicleReportFrame d bs) s = .next ((s.keptReport d r).handReport d r) := by
  change execVehicleReportFrame d bs s = _
  unfold execVehicleReportFrame
  rw [h]
  rfl

theorem receiver_keptReport (s : State) (d : Four) (r : Report) :
    (s.keptReport d r).receiver d =
      { s.receiver d with
        last := some r, age := 0, fresh := some 2000, valid := satInc top16 (s.receiver d).valid } :=
  (receiver_modReceiver _ _ _ _).trans (if_pos rfl)

/-- Settles O33: the judgement by `judgeReport_sound`, then what each judgement does. -/
theorem reportsAreCheckedAndKept : Obligations.ReportsAreCheckedAndKept := by
  intro d bs s
  refine ⟨fun h => ?_, fun h => ?_, fun r h hIdle => ?_, ?_, ?_⟩
  · change execVehicleReportFrame d bs s = _
    unfold execVehicleReportFrame
    rw [h]
    rfl
  · change execVehicleReportFrame d bs s = _
    unfold execVehicleReportFrame
    rw [h]
    rfl
  · rw [vehicleReport_valid h]
    unfold State.handReport
    rw [receiver_keptReport]
    dsimp only
    rw [hIdle]
    rfl
  · rw [judgeReport_checkFails]
    exact not_and_or
  · intro field sound tRep inRange read
    have hTemp : beSigned16 ((bs.drop 9).take 2) = tRep := beSigned16_eq _
    have hRange : reportInRange bs ↔ inRange := by
      unfold reportInRange
      rw [hTemp]
      exact Iff.rfl
    have hRead : reportRead bs = read := by
      unfold reportRead
      rw [hTemp]
      rfl
    refine ⟨?_, fun r => ?_⟩
    · rw [judgeReport_outOfRange, hRange]
      exact Iff.rfl
    · rw [judgeReport_valid, hRange, hRead]
      exact Iff.rfl

end Sys2Proof.Machine
end

section
/-!
PROOF. Vehicle reports acted on while watched, and the fallback (O34).
-/

namespace Sys2Proof.Machine

variable {s u : State}

/-! ## The tests of a report (R103, R148) -/

theorem firstTests_abort {r : Report} (h : r.command = .abort) : r.firstTests = some .vehicleAbort := if_pos h

theorem firstTests_hot {r : Report} (h : r.command ≠ .abort) (hHot : 850 ≤ r.tRep) : r.firstTests = some .tankHot :=
  (if_neg h).trans (if_pos hHot)

theorem firstTests_cold {r : Report} (h : r.command ≠ .abort) (hCold : r.tRep < 850) : r.firstTests = none :=
  (if_neg h).trans (if_neg (by omega))

theorem handReport_ended {d : Four} {r : Report} {c : Cause} (hWatch : (u.receiver d).watch ≠ .idle)
    (h : r.firstTests = some c) : u.handReport d r = u.endFill d c := by
  unfold State.handReport State.watchReport
  split
  · next hIdle => exact absurd hIdle hWatch
  · rw [h]
    rfl
  · rw [h]

theorem handReport_pending {d : Four} {r : Report} (hWatch : (u.receiver d).watch = .pending) (h : r.firstTests = none) :
    u.handReport d r = u := by
  unfold State.handReport
  rw [hWatch, h]
  rfl

theorem handReport_watching {d : Four} {r : Report} (hWatch : (u.receiver d).watch = .watching) (h : r.firstTests = none) :
    u.handReport d r =
      if u.socReached d r then u.endFill d .socReached
      else
        let t := u.modReceiver d fun v => { v with disagree := u.disagreeAfter d r }
        if u.disagreeAfter d r = 3 then t.take [.fallback d] else t.haltTest d r := by
  unfold State.handReport
  rw [hWatch]
  dsimp only
  unfold State.watchReport
  rw [h]

theorem socReached_eq {d : Four} {f : Fill} {sn : Snapshot} (hFill : (u.disp d).fill = some f)
    (hSnapshot : f.snapshot = some sn) (r : Report) :
    u.socReached d r =
      decide (sn.vehicle.soc ≤
        r.pRep * 28815 * 100 / ((if f.nozzle = .hp then 70000 else 35000) * (27315 + 10 * r.tRep).toNat)) := by
  have hNom : pNom f.nozzle = if f.nozzle = .hp then 70000 else 35000 := by cases f.nozzle <;> rfl
  unfold State.socReached
  rw [hFill, Option.bind_some, hSnapshot, Option.elim_some]
  unfold socReported
  rw [fillNozzle_of_fill hFill, hNom]
  rfl

theorem disagreeAfter_good {d : Four} {p : Nat} (hGood : (u.chan (.primary d)).state = .good)
    (hPressure : (u.chan (.primary d)).pressure = some p) (r : Report) :
    u.disagreeAfter d r = if 5000 < gap r.pRep p then min 3 ((u.receiver d).disagree + 1) else 0 := by
  unfold State.disagreeAfter State.pDisp
  rw [hGood, hPressure]

theorem haltTest_run {d : Four} {r : Report} (h : r.command = .run) : u.haltTest d r = u.modDisp d (·.clearHalt) := by
  unfold State.haltTest
  rw [h]

theorem haltTest_halt {d : Four} {r : Report} (h : r.command = .halt) (hHalt : (u.disp d).vehicleHalt = false) :
    u.haltTest d r =
      u.modDisp d fun q => { q with vehicleHalt := true, timers := { q.timers with halt := some 10000 } } := by
  unfold State.haltTest
  rw [h]
  refine modDisp_congr ?_
  unfold Dispenser.setHalt
  rw [hHalt]
  rfl

/-- A report that agrees, or disagrees, with the dispenser (R103 test 4). -/
theorem handReport_agrees {d : Four} {r : Report} {p : Nat} (hWatch : (u.receiver d).watch = .watching)
    (hTests : r.firstTests = none) (hSoc : u.socReached d r = false) (hGood : (u.chan (.primary d)).state = .good)
    (hPressure : (u.chan (.primary d)).pressure = some p) (hNear : r.pRep ≤ p + 5000 ∧ p ≤ r.pRep + 5000) :
    u.handReport d r = (u.modReceiver d fun v => { v with disagree := 0 }).haltTest d r := by
  have hCount : u.disagreeAfter d r = 0 :=
    (disagreeAfter_good hGood hPressure r).trans (if_neg (by unfold gap; omega))
  rw [handReport_watching hWatch hTests, hSoc, hCount]
  rfl

theorem handReport_disagrees {d : Four} {r : Report} {p : Nat} (hWatch : (u.receiver d).watch = .watching)
    (hTests : r.firstTests = none) (hSoc : u.socReached d r = false) (hGood : (u.chan (.primary d)).state = .good)
    (hPressure : (u.chan (.primary d)).pressure = some p) (hFar : p + 5000 < r.pRep ∨ r.pRep + 5000 < p)
    (hTwo : (u.receiver d).disagree = 2) :
    u.handReport d r = (u.modReceiver d fun v => { v with disagree := 3 }).take [.fallback d] := by
  have hCount : u.disagreeAfter d r = 3 := by
    rw [disagreeAfter_good hGood hPressure r, if_pos (by unfold gap; omega), hTwo]
    rfl
  rw [handReport_watching hWatch hTests, hSoc, hCount]
  rfl

/-! ## The freshness timer (R99, R104) -/

theorem freshnessExpiry_due {d : Four} (hRuns : (s.receiver d).fresh.isSome = true) (hOld : 20 ≤ (s.receiver d).age) :
    exec (.freshnessTimerExpiry d) s =
      .next (if (s.receiver d).watch = .watching then
          (s.modReceiver d fun v => { v with fresh := none }).take [.fallback d]
        else s.modReceiver d fun v => { v with fresh := none }) :=
  congrArg Host.Outcome.next (if_pos ⟨hRuns, hOld⟩)

theorem freshnessExpiry_none {d : Four} (h : (s.receiver d).fresh = none ∨ (s.receiver d).age < 20) :
    exec (.freshnessTimerExpiry d) s = .next s := by
  refine congrArg Host.Outcome.next (if_neg ?_)
  rintro ⟨hRuns, hOld⟩
  rcases h with hNone | hYoung
  · rw [hNone] at hRuns
    cases hRuns
  · exact absurd hOld (Nat.not_le.2 hYoung)

/-! ## The fallback (R105, R146, R147) -/

theorem fill_recompute_soc {f : Fill} {sn : Snapshot} {r : Ramp} {g : Grade} {row : RampRow} (soc m : Nat)
    (hSnapshot : f.snapshot = some sn) (hRamp : f.ramp = some r)
    (hRow : (sn.ramp.find? fun x => decide (x.1 = g)) = some (g, row)) :
    f.recompute g soc m =
      { f with
        ramp := some ⟨g, sn.target f.nozzle soc row, sn.rate f.nozzle row, r.expected,
          min r.setpoint (sn.target f.nozzle soc row), 0, some (r.expected - m)⟩,
        snapshot := some { sn with vehicle := { sn.vehicle with soc := soc } } } := by
  unfold Fill.recompute
  rw [hSnapshot, hRamp]
  dsimp only
  rw [ramp_recompute r f.nozzle soc m hRow]

/-- The ramp as a fallback sets it, `m` grams delivered. -/
def Ramp.fallenBackTo (r : Ramp) (z : Nozzle) (sn : Snapshot) (row : RampRow) (m : Nat) : Ramp :=
  ⟨r.grade, sn.target z sn.socNc row, sn.rate z row, r.expected, min r.setpoint (sn.target z sn.socNc row), 0,
    some (r.expected - m)⟩

theorem fill_fallenBack {f : Fill} {sn : Snapshot} {r : Ramp} {row : RampRow} (m : Nat)
    (hSnapshot : f.snapshot = some sn) (hRamp : f.ramp = some r)
    (hRow : (sn.ramp.find? fun x => decide (x.1 = r.grade)) = some (r.grade, row)) :
    f.fallenBack m =
      { f with
        fallback := true, ramp := some (r.fallenBackTo f.nozzle sn row m),
        snapshot := some { sn with vehicle := { sn.vehicle with soc := sn.socNc, comm := .noncomm } } } := by
  unfold Fill.fallenBack
  rw [hSnapshot, hRamp]
  dsimp only
  rw [fill_recompute_soc sn.socNc m hSnapshot hRamp hRow]
  rfl

theorem modDisp_modDisp (s : State) (d : Four) (f g : Dispenser → Dispenser) :
    (s.modDisp d f).modDisp d g = s.modDisp d (g ∘ f) :=
  congrArg (fun q => { s with disps := q }) (quad_modify_modify _ _ _ _)

/-- The dispenser as a fallback leaves it, its fill `f` before. -/
def Dispenser.fallenBack (p : Dispenser) (f : Fill) (sn : Snapshot) (r : Ramp) (row : RampRow) (m : Nat) : Dispenser :=
  { p with
    vehicleHalt := false, timers := { p.timers with halt := none },
    fill := some { f with
      fallback := true, ramp := some (r.fallenBackTo f.nozzle sn row m),
      snapshot := some { sn with vehicle := { sn.vehicle with soc := sn.socNc, comm := .noncomm } } } }

/-- The state that a fallback leaves (R105). -/
def State.fallenBack (s : State) (d : Four) (f : Fill) (sn : Snapshot) (r : Ramp) (row : RampRow) : State :=
  ((s.modReceiver d fun v =>
    { v with watch := .idle, disagree := 0, fallbacks := satInc top16 v.fallbacks }).modDisp d
      (·.fallenBack f sn r row (s.meterRec d).mass)).setPcv d (r.fallenBackTo f.nozzle sn row (s.meterRec d).mass).base

theorem fallback_fallenBack {d : Four} {f : Fill} {sn : Snapshot} {r : Ramp} {row : RampRow}
    (hState : (s.disp d).state = .fuelling) (hFill : (s.disp d).fill = some f) (hSnapshot : f.snapshot = some sn)
    (hRamp : f.ramp = some r) (hRow : (sn.ramp.find? fun x => decide (x.1 = r.grade)) = some (r.grade, row)) :
    s.fallback d = (s.fallenBack d f sn r row, (s.fallenBack d f sn r row).completeTasks d) := by
  have hBefore : s.beforeFallback d =
      (s.modReceiver d fun v =>
        { v with watch := .idle, disagree := 0, fallbacks := satInc top16 v.fallbacks }).modDisp d
          (·.fallenBack f sn r row (s.meterRec d).mass) := by
    unfold State.beforeFallback State.modFill
    rw [modDisp_modDisp]
    refine modDisp_congr ?_
    change { (s.disp d).clearHalt with
      fill := (s.disp d).fill.map (Fill.fallenBack (s.meterRec d).mass) } = _
    rw [hFill, Option.map_some, fill_fallenBack _ hSnapshot hRamp hRow]
    rfl
  have hBase : (r.fallenBackTo f.nozzle sn row (s.meterRec d).mass).setpoint =
      (r.fallenBackTo f.nozzle sn row (s.meterRec d).mass).base := by
    unfold Ramp.fallenBackTo Ramp.setpoint
    dsimp only
    rw [Nat.zero_mul, Nat.add_zero]
    exact Nat.min_eq_left (Nat.min_le_right _ _)
  have hCommand : (s.beforeFallback d).commandSetpoint d = s.fallenBack d f sn r row := by
    rw [hBefore, commandSetpoint_modDisp rfl rfl, hBase]
    rfl
  rw [fallback_eq s d hState, hCommand]

theorem fallenBack_fill (s : State) (d : Four) (f : Fill) (sn : Snapshot) (r : Ramp) (row : RampRow) :
    ((s.fallenBack d f sn r row).disp d).fill =
      ((s.disp d).fallenBack f sn r row (s.meterRec d).mass).fill :=
  congrArg Dispenser.fill ((quad_get_modify _ _ _ _).trans (if_pos rfl))

/-- Settles O34: the tests in their order, the freshness timer, and the fallback. -/
theorem reportsAreActedOnWhileWatched : Obligations.ReportsAreActedOnWhileWatched := by
  refine ⟨fun d bs s r h => ?_, fun d s => ⟨fun hRuns hOld => ⟨fun hWatch => ?_, fun hWatch => ?_⟩, freshnessExpiry_none⟩,
    fun s d f sn r row hState hFill hSnapshot hRamp hRow => ?_⟩
  · intro u cold
    have hExec : exec (.vehicleReportFrame d bs) s = .next (u.handReport d r) := vehicleReport_valid h
    have hReceiver : (u.receiver d).watch = (s.receiver d).watch := by
      have hWatch : ((s.keptReport d r).receiver d).watch = (s.receiver d).watch := by rw [receiver_keptReport]
      exact hWatch
    have hDisagree : (u.receiver d).disagree = (s.receiver d).disagree := by
      have hCount : ((s.keptReport d r).receiver d).disagree = (s.receiver d).disagree := by rw [receiver_keptReport]
      exact hCount
    refine ⟨fun hWatch hAbort => ?_, fun hWatch hAbort hHot => ?_, fun hWatch hCold => ?_,
      fun f sn hWatch hCold hFill hSnapshot => ?_⟩
    · rw [hExec, handReport_ended (hReceiver ▸ hWatch) (firstTests_abort hAbort)]
    · rw [hExec, handReport_ended (hReceiver ▸ hWatch) (firstTests_hot hAbort hHot)]
    · rw [hExec, handReport_pending (hReceiver.trans hWatch) (firstTests_cold hCold.1 hCold.2)]
    · intro soc
      have hWatching := hReceiver.trans hWatch
      have hTests := firstTests_cold hCold.1 hCold.2
      have hSoc : u.socReached d r = decide (sn.vehicle.soc ≤ soc) := socReached_eq (u := u) hFill hSnapshot r
      refine ⟨fun hFull => ?_, fun p hShort hGood hPressure => ⟨fun hNear hRun => ?_, fun hNear hHalt hNo => ?_,
        fun hFar hTwo => ?_⟩⟩
      · rw [hExec, handReport_watching hWatching hTests, hSoc, decide_eq_true hFull]
        rfl
      all_goals have hBelow : u.socReached d r = false := hSoc.trans (decide_eq_false (Nat.not_le.2 hShort))
      · rw [hExec, handReport_agrees hWatching hTests hBelow hGood hPressure hNear, haltTest_run hRun]
        rfl
      · rw [hExec, handReport_agrees hWatching hTests hBelow hGood hPressure hNear,
          haltTest_halt (u := u.modReceiver d _) hHalt hNo]
      · rw [hExec, handReport_disagrees hWatching hTests hBelow hGood hPressure hFar (hDisagree.trans hTwo)]
  · rw [freshnessExpiry_due hRuns hOld, if_neg hWatch]
  · rw [freshnessExpiry_due hRuns hOld, if_pos hWatch]
  · intro target base t
    have hBack := fallback_fallenBack hState hFill hSnapshot hRamp hRow
    have hFill' := fallenBack_fill s d f sn r row
    refine ⟨fun hBelow => ?_, fun p hGood hPressure hAt => ?_⟩
    · rw [hBack, completeTasks_below hFill' rfl hBelow]
      rfl
    · rw [hBack, completeTasks_at hFill' rfl hGood hPressure hAt]
      rfl

end Sys2Proof.Machine
end

section
/-!
PROOF. Samples into their channels (O15) and hold times (O17).
-/

namespace Sys2Proof.Machine

variable {s t u : State}

/-! ## The channels through an event's consequences -/

/-- The channels of `s` stand in `t`. -/
def SameChans (s t : State) : Prop := t.field.chans = s.field.chans

namespace SameChans

theorem refl (s : State) : SameChans s s := rfl

theorem chan (h : SameChans s t) (c : Channel) : t.chan c = s.chan c := congrArg (·.get c) h

theorem of_kept (h : SameChans s t) (k : Kept t u) : SameChans s u := by
  have hStill : u.field.chans = t.field.chans := congrArg (·.2.2.1.1) k.1
  exact hStill.trans h

theorem ite {p : Prop} [Decidable p] (ht : SameChans s t) (hu : SameChans s u) : SameChans s (if p then t else u) := by
  split
  · exact ht
  · exact hu

theorem take (h : SameChans s t) (ts : List Task) : SameChans s (t.take ts) := h.of_kept (kept_take (Kept.refl t) ts)

theorem endFill (h : SameChans s t) (d : Four) (c : Cause) : SameChans s (t.endFill d c) := h.take _

theorem takePrimary (h : SameChans s t) (d : Four) : SameChans s (t.takePrimary d) := by
  unfold State.takePrimary
  split
  · split
    · exact h.endFill d _
    · unfold State.goodPrimary
      split
      · split
        · split <;> exact h
        · exact h
        · exact h
      · exact h
  · exact h

theorem dualCheck (h : SameChans s t) (d : Four) : SameChans s (t.dualCheck d) := by
  have hChecked := fun n now => endFill (s := s) (t := t.modField fun f =>
    { f with disagreeCount := f.disagreeCount.set d n, disagree := f.disagree.set d now }) h d .sensor
  unfold State.dualCheck
  dsimp only
  split
  · exact ite (hChecked _ _) h
  · exact h

theorem compressorSample (h : SameChans s t) (b : Four) : SameChans s (t.compressorSample b) := by
  have hEnd : SameChans s (t.endDelivery b) := h.of_kept (kept_endDelivery (Kept.refl t) b)
  unfold State.compressorSample
  split
  · split
    · split
      · have hPosted : SameChans s (((t.endDelivery b).modComp (·.dropEntry b)).post .refillFailed (.bank b) 3) := hEnd
        exact hPosted.take _
      · split
        · refine SameChans.take ?_ _
          cases (t.endDelivery b).refillEntry b with
          | none => exact hEnd
          | some e => exact hEnd.of_kept (kept_finishEntry (Kept.refl _) e)
        · exact h
    · exact h
  · split
    · exact h.of_kept (kept_evalStart (Kept.refl t))
    · exact h

theorem handFailed (h : SameChans s t) (c : Channel) : SameChans s (t.handFailed c).1 := by
  cases c with
  | bank b =>
    simp only [State.handFailed]
    split
    · exact h.of_kept (kept_stall (Kept.refl t) b 2)
    · exact h
  | supply => exact h.of_kept (kept_judgeSupply (Kept.refl t))
  | _ => exact h

theorem settled {p : State × List Task} (h : SameChans s p.1) : SameChans s (settled p) := h.take _

theorem handSample (h : SameChans s t) (c : Channel) : SameChans s (t.handSample c) := by
  cases c with
  | primary d => exact (h.takePrimary d).dualCheck d
  | secondary d | outlet d =>
    simp only [State.handSample]
    split
    · exact settled (h.handFailed _)
    · exact h
  | bank b =>
    refine SameChans.compressorSample ?_ b
    split
    · split
      · exact h.of_kept (kept_lowTest (Kept.refl t) b _)
      · exact h
    · exact h
  | supply => exact h.of_kept (kept_judgeSupply (Kept.refl t))
  | ambient | precoolOutlet => exact h

end SameChans

/-! ## Samples (R19) -/

theorem inPhysicalRange_iff (i : Nat) : inPhysicalRange i = true ↔ 3600 ≤ i ∧ i ≤ 21000 := by
  unfold inPhysicalRange
  rw [Bool.and_eq_true, decide_eq_true_iff, decide_eq_true_iff]

theorem sampled_inRange {i : Nat} (hLow : 3600 ≤ i) (hHigh : i ≤ 21000) (r : ChanRec) (c : Channel) :
    r.sampled c i = { r with value := some (convert c i), age := 0, state := .good, hold := none } :=
  if_pos ((inPhysicalRange_iff i).2 ⟨hLow, hHigh⟩)

theorem sampled_outOfRange {i : Nat} (h : i < 3600 ∨ 21000 < i) (r : ChanRec) (c : Channel) :
    r.sampled c i = if r.state = .good then { r with state := .invalid, hold := some (holdTime c) } else r :=
  if_neg fun hIn => by
    have := (inPhysicalRange_iff i).1 hIn
    omega

theorem analogSample_taken {c : Channel} (hRef : (s.chan c).ref ≠ .fail) (i : Nat) :
    exec (.analogSample c i) s = .next ((s.setChan c ((s.chan c).sampled c i)).handSample c) :=
  congrArg Host.Outcome.next (if_neg hRef)

/-- Settles O15: the channel by `sampled`, and its consumers leave the channels. -/
theorem aSampleSetsItsChannel : Obligations.ASampleSetsItsChannel := by
  intro c i s
  refine ⟨fun hRef => congrArg Host.Outcome.next (if_pos hRef), fun hRef => ⟨_, analogSample_taken hRef i, ?_⟩⟩
  have hChans := (SameChans.refl (s.setChan c ((s.chan c).sampled c i))).handSample c
  have hOwn : ((s.setChan c ((s.chan c).sampled c i)).handSample c).chan c = (s.chan c).sampled c i :=
    (hChans.chan c).trans ((chan_setChan _ _ _ _).trans (if_pos rfl))
  refine ⟨fun hLow hHigh => ?_, fun hOut => ?_, fun e he => ?_⟩
  · rw [hOwn, sampled_inRange hLow hHigh]
    rfl
  · rw [hOwn, sampled_outOfRange hOut]
  · exact (hChans.chan e).trans ((chan_setChan _ _ _ _).trans (if_neg he))

/-! ## Hold times (R20) -/

theorem holdExpiry_fails {c : Channel} (hState : (s.chan c).state = .invalid) (hHold : (s.chan c).hold.isSome = true) :
    exec (.channelHoldExpiry c) s =
      .next (settled (((s.setChan c { s.chan c with state := .failed, hold := none }).post .channelFault
        (channelSource c) (256 + channelNumber c)).handFailed c)) :=
  congrArg Host.Outcome.next (if_pos ⟨hHold, hState⟩)

theorem settled_nil (u : State) : settled (u, []) = u := runTasks_nil agendaBound u

theorem deliversInto_iff (c : Compressor) (b : Four) :
    c.deliversInto b = true ↔ (c.state = .running ∨ c.state = .switching) ∧ c.delivery = some b := by
  unfold Compressor.deliversInto
  rw [Bool.and_eq_true, Bool.or_eq_true, decide_eq_true_iff, decide_eq_true_iff, decide_eq_true_iff]

/-- The switch demand of the dispenser that draws from a failed bank (R41). -/
def State.bankDemand (u : State) (b : Four) : List Task :=
  match (u.bank b).state with
  | .drawing d => [.switchDemand d]
  | _ => []

theorem handFailed_bank (u : State) (b : Four) :
    u.handFailed (.bank b) =
      if u.comp.deliversInto b then ((u.stall b 2).1, u.bankDemand b ++ (u.stall b 2).2) else (u, u.bankDemand b) := rfl

theorem bankDemand_drawing {b d : Four} (h : (u.bank b).state = .drawing d) : u.bankDemand b = [.switchDemand d] := by
  unfold State.bankDemand
  rw [h]

theorem bankDemand_none {b : Four} (h : ∀ d, (u.bank b).state ≠ .drawing d) : u.bankDemand b = [] := by
  unfold State.bankDemand
  split
  · next d hDraw => exact absurd hDraw (h d)
  · rfl

theorem judgeSupply_failed (h : (u.chan .supply).state = .failed) :
    u.judgeSupply =
      if u.comp.supplyLow then u else (u.modComp fun c => { c with supplyLow := true }).unload := by
  unfold State.judgeSupply ChanRec.usablePressure ChanRec.usable
  rw [if_pos h]
  rfl

/-- Settles O17: the expiry, and the hand-over of a failed channel by its consumer. -/
theorem aHoldThatExpiresFailsTheChannel : Obligations.AHoldThatExpiresFailsTheChannel := by
  refine ⟨fun c s hState hHold => ⟨⟨_, holdExpiry_fails hState hHold, rfl, ?_⟩, fun hPlain => ?_⟩,
    fun u d => ⟨rfl, rfl, ?_⟩, fun u b => ?_, fun u hFailed => ⟨fun hLow => ?_, fun hLow => ?_⟩⟩
  · have hPosted : SameChans (s.setChan c { s.chan c with state := .failed, hold := none })
        ((s.setChan c { s.chan c with state := .failed, hold := none }).post .channelFault (channelSource c)
          (256 + channelNumber c)) := rfl
    exact ((hPosted.handFailed c).settled.chan c).trans ((chan_setChan _ _ _ _).trans (if_pos rfl))
  · rw [holdExpiry_fails hState hHold]
    rcases hPlain with rfl | rfl <;> exact congrArg Host.Outcome.next (settled_nil _)
  · unfold State.handFailed
    by_cases hFuelling : (u.disp d).state = .fuelling <;> simp [hFuelling]
  · intro delivering
    have hDelivers : u.comp.deliversInto b = true ↔ delivering := deliversInto_iff u.comp b
    refine ⟨fun d hNot hDraw => ?_, fun hNot hState => ?_, fun hDelivering hState => ?_⟩
    · rw [handFailed_bank, if_neg (hDelivers.not.2 hNot), bankDemand_drawing hDraw]
    · rw [handFailed_bank, if_neg (hDelivers.not.2 hNot), bankDemand_none hState]
    · rw [handFailed_bank, if_pos (hDelivers.2 hDelivering), bankDemand_none hState]
      rfl
  all_goals have hJudge : u.handFailed .supply = (u.judgeSupply, []) := rfl
  all_goals rw [hJudge, judgeSupply_failed hFailed, hLow]
  all_goals rfl

end Sys2Proof.Machine
end

section
/-!
PROOF. Samples handed to their owners (O16).
-/

namespace Sys2Proof.Machine

variable {s t u : State}

/-! ## The dispenser's sample (R115, R121) -/

theorem handSample_primary (s : State) (d : Four) : s.handSample (.primary d) = (s.takePrimary d).dualCheck d := rfl

theorem takePrimary_ends {d : Four} {c : Cause} (hRun : (s.disp d).state.running = true) (hCause : s.sampleCause d = some c) :
    s.takePrimary d = s.endFill d c := by
  unfold State.takePrimary
  rw [if_pos hRun, hCause]

theorem takePrimary_good {d : Four} (hRun : (s.disp d).state.running = true) (hCause : s.sampleCause d = none) :
    s.takePrimary d = s.goodPrimary d := by
  unfold State.takePrimary
  rw [if_pos hRun, hCause]

theorem overpressureThreshold_of_fill {d : Four} {f : Fill} (hFill : (s.disp d).fill = some f) :
    overpressureThreshold (s.fillNozzle d) = if f.nozzle = .hp then 88500 else 44750 := by
  rw [fillNozzle_of_fill hFill]
  cases f.nozzle <;> rfl

theorem sampleCause_over {d : Four} {f : Fill} {h : Nat} (hFill : (s.disp d).fill = some f)
    (hHigher : s.higherPressure d = some h) (hOver : (if f.nozzle = .hp then 88500 else 44750) < h) :
    s.sampleCause d = some .overpressure := by
  unfold State.sampleCause
  rw [hHigher, overpressureThreshold_of_fill hFill]
  exact if_pos (decide_eq_true hOver)

theorem sampleCause_within {d : Four} {f : Fill} (hFill : (s.disp d).fill = some f)
    (hWithin : ∀ h, s.higherPressure d = some h → h ≤ if f.nozzle = .hp then 88500 else 44750) :
    s.sampleCause d =
      if (s.disp d).state = .fuelling ∧ s.atRampTarget d = true then some .complete
      else if (s.chan (.primary d)).state = .failed then some .sensor
      else none := by
  unfold State.sampleCause
  rw [overpressureThreshold_of_fill hFill]
  cases hHigher : s.higherPressure d with
  | none => rfl
  | some h => exact if_neg fun hOver => absurd (of_decide_eq_true hOver) (Nat.not_lt.2 (hWithin h hHigher))

theorem higherPressure_both {d : Four} {p q : Nat} (hp : (s.chan (.primary d)).pressure = some p)
    (hq : (s.chan (.secondary d)).pressure = some q) : s.higherPressure d = some (max p q) := by
  unfold State.higherPressure
  rw [hp, hq]

theorem higherPressure_primary {d : Four} {p : Nat} (hp : (s.chan (.primary d)).pressure = some p)
    (hq : (s.chan (.secondary d)).pressure = none) : s.higherPressure d = some p := by
  unfold State.higherPressure
  rw [hp, hq]

theorem higherPressure_secondary {d : Four} {q : Nat} (hp : (s.chan (.primary d)).pressure = none)
    (hq : (s.chan (.secondary d)).pressure = some q) : s.higherPressure d = some q := by
  unfold State.higherPressure
  rw [hp, hq]

theorem atRampTarget_eq {d : Four} {f : Fill} {r : Ramp} {p : Nat} (hFill : (s.disp d).fill = some f)
    (hRamp : f.ramp = some r) (hGood : (s.chan (.primary d)).state = .good)
    (hPressure : (s.chan (.primary d)).pressure = some p) : s.atRampTarget d = decide (r.target ≤ p) := by
  unfold State.atRampTarget State.pDisp
  rw [hGood, hPressure, hFill, Option.bind_some, hRamp]

theorem goodPrimary_fuelling {d : Four} {f : Fill} {r : Ramp} {p : Nat} (hState : (s.disp d).state = .fuelling)
    (hFill : (s.disp d).fill = some f) (hRamp : f.ramp = some r) (hGood : (s.chan (.primary d)).state = .good)
    (hPressure : (s.chan (.primary d)).pressure = some p) :
    s.goodPrimary d = s.modDisp d fun q => q.overshootTest p r.setpoint := by
  unfold State.goodPrimary State.pDisp
  rw [hGood, hPressure, hState, hFill, Option.bind_some, hRamp]

theorem goodPrimary_leakCheck {d : Four} {p : Nat} (hState : (s.disp d).state = .leakCheck)
    (hGood : (s.chan (.primary d)).state = .good) (hPressure : (s.chan (.primary d)).pressure = some p) :
    s.goodPrimary d = s.modDisp d fun q => { q with leakRing := pushLeak q.leakRing p } := by
  unfold State.goodPrimary State.pDisp
  rw [hGood, hPressure, hState]

/-! ## The dual check (R23) -/

/-- The count and the condition of the dual check set. -/
def State.checked (s : State) (d : Four) (n : Nat) (on : Bool) : State :=
  s.modField fun f => { f with disagreeCount := f.disagreeCount.set d n, disagree := f.disagree.set d on }

theorem dualCheck_good {d : Four} {p q : Nat} (hp : (s.chan (.primary d)).pressure = some p)
    (hq : (s.chan (.secondary d)).pressure = some q) (hpGood : (s.chan (.primary d)).state = .good)
    (hqGood : (s.chan (.secondary d)).state = .good) :
    s.dualCheck d =
      let n := if 1500 < gap p q then min 10 (s.field.disagreeCount.get d + 1) else 0
      let now := if n = 10 then true else if n = 0 then false else s.field.disagree.get d
      if now && !s.field.disagree.get d && (s.disp d).state.running then (s.checked d n now).endFill d .sensor
      else s.checked d n now := by
  unfold State.dualCheck
  dsimp only
  rw [hp, hq, hpGood, hqGood]
  rfl

theorem dualCheck_agrees {d : Four} {p q : Nat} (hp : (s.chan (.primary d)).pressure = some p)
    (hq : (s.chan (.secondary d)).pressure = some q) (hpGood : (s.chan (.primary d)).state = .good)
    (hqGood : (s.chan (.secondary d)).state = .good) (hNear : ¬1500 < gap p q) : s.dualCheck d = s.checked d 0 false := by
  rw [dualCheck_good hp hq hpGood hqGood, if_neg hNear]
  rfl

theorem dualCheck_disagrees {d : Four} {p q : Nat} (hp : (s.chan (.primary d)).pressure = some p)
    (hq : (s.chan (.secondary d)).pressure = some q) (hpGood : (s.chan (.primary d)).state = .good)
    (hqGood : (s.chan (.secondary d)).state = .good) (hFar : 1500 < gap p q) :
    let n := min 10 (s.field.disagreeCount.get d + 1)
    (n < 10 → s.dualCheck d = s.checked d n (s.field.disagree.get d)) ∧
    (n = 10 → s.dualCheck d =
      if !s.field.disagree.get d && (s.disp d).state.running then (s.checked d 10 true).endFill d .sensor
      else s.checked d 10 true) := by
  intro n
  have hn : min 10 (s.field.disagreeCount.get d + 1) = n := rfl
  refine ⟨fun hFew => ?_, fun hTen => ?_⟩
  all_goals
    rw [dualCheck_good hp hq hpGood hqGood, if_pos hFar]
    dsimp only
    rw [hn]
  · have hZero : n ≠ 0 := by omega
    rw [if_neg (Nat.ne_of_lt hFew), if_neg hZero]
    cases s.field.disagree.get d <;> rfl
  · rw [hTen]
    rfl

theorem dualCheck_notGood {d : Four}
    (h : (s.chan (.primary d)).state ≠ .good ∨ (s.chan (.secondary d)).state ≠ .good) : s.dualCheck d = s := by
  unfold State.dualCheck
  dsimp only
  split
  · next hp hq _ _ => exact (h.elim (absurd hp) (absurd hq))
  · rfl

/-! ## The bank's sample (R53, R60, R61, R65, R71) -/

theorem handSample_bank_good {b : Four} {p : Nat} (hGood : (s.chan (.bank b)).state = .good)
    (hPressure : (s.chan (.bank b)).pressure = some p) :
    s.handSample (.bank b) = (if s.s1Ended then s.lowTest b p else s).compressorSample b := by
  unfold State.handSample
  dsimp only
  rw [hGood, hPressure]

theorem s1Ended_true (h : s.sup.station ≠ .startUp .s1) : s.s1Ended = true := decide_eq_true h

theorem lowTest_falls {b : Four} {p : Nat} (hLow : (s.bank b).low = false) (hp : p < (s.bankCfg b).refillOn) :
    s.lowTest b p =
      let u := (s.modBank b fun k => { k with low := true }).post .bankLow (.bank b) (p / 100)
      if (s.bank b).refillFailed = true ∨ (s.bank b).state = .isolated then u else u.autoDemand b := by
  have hFalls : (!(s.bank b).low && decide (p < (s.bankCfg b).refillOn)) = true := by
    rw [hLow, decide_eq_true hp]
    rfl
  unfold State.lowTest
  dsimp only
  rw [if_pos hFalls]
  simp only [Bool.or_eq_true, decide_eq_true_eq]

theorem lowTest_recovers {b : Four} {p : Nat} (hLow : (s.bank b).low = true) (hp : (s.bankCfg b).refillTarget ≤ p) :
    s.lowTest b p = s.modBank b fun x => { x with low := false, refillFailed := false } := by
  unfold State.lowTest
  dsimp only
  rw [hLow, decide_eq_true hp]
  rfl

theorem lowTest_stands {b : Four} {p : Nat}
    (h : ((s.bank b).low = true ∧ p < (s.bankCfg b).refillTarget) ∨
      ((s.bank b).low = false ∧ (s.bankCfg b).refillOn ≤ p)) : s.lowTest b p = s := by
  unfold State.lowTest
  dsimp only
  rcases h with ⟨hLow, hp⟩ | ⟨hLow, hp⟩
  · rw [hLow, decide_eq_false (Nat.not_le.2 hp)]
    rfl
  · rw [hLow, decide_eq_false (Nat.not_lt.2 hp)]
    rfl

theorem refillEntry_bank {b : Four} {e : RefillEntry} (h : u.refillEntry b = some e) : e.bank = b := by
  simpa using List.find?_some h

theorem compressorSample_delivering {b : Four} {p : Nat} {e : RefillEntry} (hDelivers : s.comp.deliversInto b = true)
    (hp : s.pBank b = some p) (he : s.refillEntry b = some e) :
    s.compressorSample b =
      if overpressured (s.bankCfg b).rated p then
        (((s.endDelivery b).modComp (·.dropEntry b)).post .refillFailed (.bank b) 3).take
          [.isolate b, .latch .bankOverpressure (some b), .unload]
      else if s.comp.state = .running ∧ e.target ≤ p then
        (((s.endDelivery b).refillEntry b).elim (s.endDelivery b) (s.endDelivery b).finishEntry).take [.choose .switching []]
      else s := by
  unfold State.compressorSample
  rw [if_pos hDelivers, hp, he]

/-! ## The supply's sample (R70) -/

theorem handSample_supply (s : State) : s.handSample .supply = s.judgeSupply := rfl

theorem judgeSupply_pressure {p : Nat} (hState : (s.chan .supply).state ≠ .failed)
    (hp : (s.chan .supply).pressure = some p) :
    s.judgeSupply =
      if 2000 ≤ p then
        if s.comp.supplyLow then (s.modComp fun c => { c with supplyLow := false }).evalStart else s
      else if p < 1500 then
        if s.comp.supplyLow then s else (s.modComp fun c => { c with supplyLow := true }).unload
      else s := by
  have hUsable : (s.chan .supply).usablePressure = some p := by
    unfold ChanRec.usablePressure ChanRec.usable
    rw [if_neg hState]
    exact hp
  unfold State.judgeSupply
  rw [hUsable]

/-- Settles O16: each owner's case by the lemmas above. -/
theorem samplesReachTheirOwners : Obligations.SamplesReachTheirOwners := by
  refine ⟨⟨fun c i s hRef hLow hHigh => ?_, fun s d f p q hRun hFill hp hq => ⟨fun hOver => ?_, fun r hTop hState hGood hRamp hAt =>
    ?_⟩, fun s b p hStation hGood hp hLow hFall => ⟨fun hNo => ?_, fun hOk hFree => ?_⟩, fun s p hState hp => ⟨fun hFall hLow => ?_,
    fun hRise hLow => ?_, fun hOver hUnder => ?_⟩⟩, fun s d f hRun hFill => ?_, fun s b p e hDelivery hp he => ?_,
    fun s d p q hp hq hpGood hqGood => ?_, fun s d h => dualCheck_notGood h, fun s b p hGood hp => ?_⟩
  · rw [analogSample_taken hRef, sampled_inRange hLow hHigh]
  · rw [handSample_primary, takePrimary_ends hRun (sampleCause_over hFill (higherPressure_both hp hq) hOver)]
  · have hWithin := sampleCause_within hFill fun h hHigher =>
      Option.some.inj ((higherPressure_both hp hq).symm.trans hHigher) ▸ hTop
    have hTarget := (atRampTarget_eq hFill hRamp hGood hp).trans (decide_eq_true hAt)
    rw [handSample_primary, takePrimary_ends hRun (hWithin.trans (if_pos ⟨hState, hTarget⟩))]
  · rw [handSample_bank_good hGood hp, s1Ended_true hStation, if_pos rfl, lowTest_falls hLow hFall]
    exact congrArg (State.compressorSample · b) (if_pos hNo)
  · rw [handSample_bank_good hGood hp, s1Ended_true hStation, if_pos rfl, lowTest_falls hLow hFall]
    refine congrArg (State.compressorSample · b) (if_neg ?_)
    rw [hOk]
    exact not_or.2 ⟨by decide, hFree⟩
  · rw [handSample_supply, judgeSupply_pressure hState hp, if_neg (by omega), if_pos hFall, hLow]
    rfl
  · rw [handSample_supply, judgeSupply_pressure hState hp, if_pos hRise, hLow]
    rfl
  · rw [handSample_supply, judgeSupply_pressure hState hp, if_neg (Nat.not_le.2 hUnder), if_neg (Nat.not_lt.2 hOver)]
  · intro top
    refine ⟨fun p hp hq hOver => ?_, fun q hp hq hOver => ?_, fun p hp hGood hTop => ?_⟩
    · rw [handSample_primary, takePrimary_ends hRun (sampleCause_over hFill (higherPressure_primary hp hq) hOver)]
    · rw [handSample_primary, takePrimary_ends hRun (sampleCause_over hFill (higherPressure_secondary hp hq) hOver)]
    · have hWithin := sampleCause_within hFill hTop
      refine ⟨fun r hState hRamp hBelow => ?_, fun hState => ?_⟩
      · have hTarget := (atRampTarget_eq hFill hRamp hGood hp).trans (decide_eq_false (Nat.not_le.2 hBelow))
        have hNone : s.sampleCause d = none := by
          rw [hWithin, hTarget, hGood]
          exact if_neg fun h => absurd h.2 (by decide)
        have hTest : s.takePrimary d = s.modDisp d fun q => q.overshootTest p r.setpoint :=
          (takePrimary_good hRun hNone).trans (goodPrimary_fuelling hState hFill hRamp hGood hp)
        intro pSet
        refine ⟨fun hClear hOver => ?_, fun hSet hUnder => ?_⟩
        · rw [handSample_primary, hTest]
          refine congrArg (State.dualCheck · d) (modDisp_congr ?_)
          unfold Dispenser.overshootTest
          rw [hClear]
          exact if_pos hOver
        · rw [handSample_primary, hTest]
          refine congrArg (State.dualCheck · d) (modDisp_congr ?_)
          unfold Dispenser.overshootTest
          rw [hSet]
          exact if_pos hUnder
      · have hNone : s.sampleCause d = none := by
          rw [hWithin, hState, hGood]
          exact if_neg fun h => absurd h.1 (by decide)
        rw [handSample_primary, takePrimary_good hRun hNone, goodPrimary_leakCheck hState hGood hp]
        rfl
  · intro u
    refine ⟨fun hState hOver => ?_, fun e' hState hRated hAt he' => ?_⟩
    · rw [compressorSample_delivering ((deliversInto_iff _ _).2 ⟨hState, hDelivery⟩) hp he]
      exact if_pos (decide_eq_true hOver)
    · have hSound : ¬overpressured (s.bankCfg b).rated p = true := fun h =>
        absurd (of_decide_eq_true h) (Nat.not_lt.2 hRated)
      rw [compressorSample_delivering ((deliversInto_iff _ _).2 ⟨.inl hState, hDelivery⟩) hp he, if_neg hSound,
        if_pos ⟨hState, hAt⟩]
      have hElim : ((s.endDelivery b).refillEntry b).elim (s.endDelivery b) (s.endDelivery b).finishEntry =
          u.finishEntry e' := by rw [he']; rfl
      have hBank := refillEntry_bank he'
      rw [hElim]
      unfold State.finishEntry
      rw [hBank]
      rfl
  · intro checked n
    refine ⟨fun hNear hNear' => dualCheck_agrees hp hq hpGood hqGood (by unfold gap; omega), fun hFar => ?_⟩
    obtain ⟨hFew, hTen⟩ := dualCheck_disagrees hp hq hpGood hqGood (by unfold gap; omega)
    refine ⟨hFew, fun hn hOff hRun => ?_, fun hn hStill => ?_⟩
    · rw [hTen hn, hOff, hRun]
      rfl
    · rw [hTen hn]
      rcases hStill with hOn | hRun
      · rw [hOn]
        rfl
      · rw [hRun, Bool.and_false]
        rfl
  · intro k
    refine ⟨fun hStation => ?_, fun hStation => ⟨fun hLow hp' => ?_, fun hStands => ?_⟩⟩
    · have hS1 : s.s1Ended = false := decide_eq_false (not_not.2 hStation)
      rw [handSample_bank_good hGood hp, hS1]
      rfl
    · rw [handSample_bank_good hGood hp, s1Ended_true hStation, if_pos rfl, lowTest_recovers hLow hp']
    · rw [handSample_bank_good hGood hp, s1Ended_true hStation, if_pos rfl, lowTest_stands hStands]

end Sys2Proof.Machine
end

section
/-!
PROOF. Debounced levels and the beginning of start-up (O18), and the events of the settled switches (O19).
-/

namespace Sys2Proof.Machine

variable {s t u : State}

/-! ## Latches (R181, R182) -/

/-- A latch set, and no more. -/
def State.latched (s : State) (c : FaultCause) : State :=
  s.modSup fun u => { u with latches := u.latches.set c true }

theorem latch_only {c : FaultCause} (h : s.sup.station ≠ .ready ∨ SiteCfg.enabled s.work.site c = false) :
    s.latch c none = (s.latched c, []) := by
  unfold State.latch
  rw [if_neg]
  · cases c <;> rfl
  · rintro ⟨hReady, hEnabled⟩
    rcases h with hStation | hDisabled
    · exact hStation hReady
    · rw [hEnabled] at hDisabled
      cases hDisabled

theorem take_latch_only {c : FaultCause} (h : s.sup.station ≠ .ready ∨ SiteCfg.enabled s.work.site c = false) :
    s.take [.latch c none] = s.latched c := take_single (latch_only h)

/-- A latch given to the Supervisor stands set once its consequences are through. -/
theorem take_latch_set (s : State) (c : FaultCause) : (s.take [.latch c none]).sup.latches.get c = true := by
  have hKept : Kept (s.latch c none).1 (s.take [.latch c none]) := kept_runTasks 999 _ _ (Kept.refl _)
  obtain ⟨-, -, -, hLatches, -⟩ := hKept
  refine hLatches c ?_
  cases c <;> rfl

/-- An enabled latch takes a READY station to SHUTDOWN (R182, R183). -/
theorem take_latch_shutdown {c : FaultCause} (hReady : s.sup.station = .ready)
    (hEnabled : SiteCfg.enabled s.work.site c = true) : (s.take [.latch c none]).sup.station = .shutdown := by
  have hLatch : s.doTask (.latch c none) = ((s.latch c none).1, [.shutdown c]) :=
    congrArg ((s.latch c none).1, ·) (if_pos ⟨hReady, hEnabled⟩)
  have hKept : Kept ((s.latch c none).1.shutdown c).1 (s.take [.latch c none]) := by
    unfold State.take agendaBound
    rw [runTasks_cons, hLatch]
    exact kept_runTasks 998 _ _ (Kept.refl _)
  obtain ⟨-, -, -, -, hShutdown⟩ := hKept
  exact hShutdown rfl

/-! ## Debounce (R25, R26) -/

theorem allSettled_iff (w : Switches) : w.allSettled = true ↔ ∀ x, (w.get x).settled.isSome = true := by
  unfold Switches.allSettled Switches.toList Quad.toList
  simp only [List.cons_append, List.nil_append, List.all_cons, List.all_nil, Bool.and_true, Bool.and_eq_true]
  constructor
  · intro h x
    cases x with
    | holder d => cases d <;> simp [Switches.get, Quad.get, h]
    | startButton d => cases d <;> simp [Switches.get, Quad.get, h]
    | stopButton d => cases d <;> simp [Switches.get, Quad.get, h]
    | _ => simp [Switches.get, h]
  · intro h
    exact ⟨h (.holder .one), h (.holder .two), h (.holder .three), h (.holder .four), h (.startButton .one),
      h (.startButton .two), h (.startButton .three), h (.startButton .four), h (.stopButton .one), h (.stopButton .two),
      h (.stopButton .three), h (.stopButton .four), h .esd, h .gasAlarm, h .sealIn⟩

/-- The first settling of an input (R26). -/
theorem debounce_first {w : Switch} (hTimer : (s.switch w).timer.isSome = true) (hFirst : (s.switch w).settled = none) :
    exec (.debounceExpiry w) s =
      .next (if s.sup.station = .startUp .s1 ∧ (s.setSwitch w (s.switch w).settle).field.switches.allSettled = true then
        (s.setSwitch w (s.switch w).settle).beginStartUp else s.setSwitch w (s.switch w).settle) := by
  refine congrArg Host.Outcome.next ((if_pos hTimer).trans (if_neg ?_))
  rw [hFirst]
  decide

/-- A later settling, with its event (R25). -/
theorem debounce_event {w : Switch} (hTimer : (s.switch w).timer.isSome = true) (hSettled : (s.switch w).settled ≠ none) :
    exec (.debounceExpiry w) s =
      .next ((s.setSwitch w (s.switch w).settle).switchEvent w (s.switch w).candidate) :=
  congrArg Host.Outcome.next ((if_pos hTimer).trans (if_pos (Option.isSome_iff_ne_none.2 hSettled)))

/-! ## Start-up begun (R160, R177, R179, R180) -/

/-- The working values `w` loaded at S1, `good` where they are the stored ones (R76, R94, R180). -/
def State.loadedAs (u : State) (good : Bool) (w : WorkConfig) : State :=
  { u with
    sup := { u.sup with work := w, configDefaulted := !good },
    comp := { u.comp with ring := u.comp.ring.drop (u.comp.ring.length - w.site.startLimit) },
    precool := { u.precool with reserve := min u.precool.reserve w.precool.eMax } }

/-- The state at the beginning of stage S3 (R179), `sound` where the calibration record agrees (R160). -/
def State.atS3With (u : State) (good : Bool) (w : WorkConfig) (sound : Bool) : State :=
  { u with
    sup := { u.sup with
      work := w, configDefaulted := !good, station := .startUp .s3,
      latches := { u.sup.latches with metrology := u.sup.latches.metrology || !sound } },
    comp := { u.comp with ring := u.comp.ring.drop (u.comp.ring.length - w.site.startLimit) },
    precool := { u.precool with reserve := min u.precool.reserve w.precool.eMax },
    meter := { u.meter with damaged := u.meter.damaged || !sound } }

/-- Whether the stored configuration agrees with its CRC (R180). -/
def State.storeGood (u : State) : Bool := decide (crc16 (Config.storeImage u.sup.store.image) = u.sup.store.crc)

def State.atS3 (u : State) : State :=
  u.atS3With u.storeGood (if u.storeGood then u.sup.store.image else factoryConfig) u.meter.cal.agrees

theorem loadConfig_eq (u : State) :
    u.loadConfig = u.loadedAs u.storeGood (if u.storeGood then u.sup.store.image else factoryConfig) := rfl

theorem checkCalibration_latched (hAgrees : u.meter.cal.agrees = false) (hStation : u.sup.station ≠ .ready) :
    u.checkCalibration = (u.modMeter fun m => { m with damaged := true }).latched .metrology := by
  unfold State.checkCalibration
  rw [hAgrees]
  exact take_latch_only (s := u.modMeter fun m => { m with damaged := true }) (.inl hStation)

theorem checkCalibration_loaded (u : State) (good : Bool) (w : WorkConfig) :
    (((u.loadedAs good w).modSup fun x => { x with station := .startUp .s2 }).checkCalibration.modSup fun x =>
      { x with station := .startUp .s3 }) = u.atS3With good w u.meter.cal.agrees := by
  cases hAgrees : u.meter.cal.agrees with
  | true =>
    rw [checkCalibration_agrees (u := (u.loadedAs good w).modSup _) hAgrees]
    unfold State.atS3With
    rw [Bool.not_true, Bool.or_false, Bool.or_false]
    rfl
  | false =>
    rw [checkCalibration_latched (u := (u.loadedAs good w).modSup _) hAgrees fun h => StationState.noConfusion h]
    unfold State.atS3With
    rw [Bool.not_false, Bool.or_true, Bool.or_true]
    rfl

theorem beginStartUp_eq (u : State) : u.beginStartUp = u.atS3.recoverNext := by
  have hCheck := checkCalibration_loaded u u.storeGood (if u.storeGood then u.sup.store.image else factoryConfig)
  rw [← loadConfig_eq] at hCheck
  exact congrArg State.recoverNext hCheck

/-- The levels that have no event (R25). -/
theorem switchEvent_quiet {w : Switch} {l : Level}
    (h : ((∃ d, w = .holder d) ∧ l = .opened) ∨ ((∃ d, w = .startButton d ∨ w = .stopButton d) ∧ l = .opened) ∨
      ((w = .esd ∨ w = .gasAlarm) ∧ l = .closed)) (t : State) : t.switchEvent w l = t := by
  rcases h with ⟨⟨d, rfl⟩, rfl⟩ | ⟨⟨d, rfl | rfl⟩, rfl⟩ | ⟨rfl | rfl, rfl⟩ <;> rfl

/-- Settles O18: the rows by their inputs, the last first settling, and start-up to the recovery of S3. -/
theorem levelsAreDebounced : Obligations.LevelsAreDebounced := by
  refine ⟨fun s l => ⟨fun w => rfl, fun v => rfl, rfl, fun r => ⟨fun hPin => if_pos hPin, fun hPin hSettled => ?_,
    fun hPin hSettled => ?_⟩, fun w hTimer hFirst hStation => ?_, fun w hTimer hSettled hQuiet => ?_⟩,
    fun s w hTimer hFirst hStation => ?_, fun u => ?_⟩
  · exact (if_neg hPin).trans (if_pos hSettled)
  · exact (if_neg hPin).trans (if_neg hSettled)
  · rw [debounce_first hTimer hFirst, if_neg fun h => hStation h.1]
    rfl
  · exact (debounce_event hTimer hSettled).trans (congrArg Host.Outcome.next (switchEvent_quiet hQuiet _))
  · intro u
    have hAll : u.field.switches.allSettled = true ↔ ∀ x, x ≠ w → (s.switch x).settled ≠ none := by
      rw [allSettled_iff]
      refine ⟨fun h x hx => ?_, fun h x => ?_⟩
      · have hx' := h x
        have hSame : u.switch x = s.switch x := (switch_setSwitch _ _ _ _).trans (if_neg hx)
        change (u.switch x).settled.isSome = true at hx'
        rw [hSame] at hx'
        exact Option.isSome_iff_ne_none.1 hx'
      · change (u.switch x).settled.isSome = true
        by_cases hx : x = w
        · have hOwn : u.switch x = _ := (switch_setSwitch _ _ _ _).trans (if_pos hx)
          rw [hOwn]
          rfl
        · have hSame : u.switch x = s.switch x := (switch_setSwitch _ _ _ _).trans (if_neg hx)
          rw [hSame]
          exact Option.isSome_iff_ne_none.2 (h x hx)
    refine ⟨fun ⟨x, hx, hNone⟩ => ?_, fun hOthers => ?_⟩
    · rw [debounce_first hTimer hFirst, if_neg fun h => hAll.1 h.2 x hx hNone]
      rfl
    · rw [debounce_first hTimer hFirst, if_pos ⟨hStation, hAll.2 hOthers⟩]
      rfl
  · intro store good w sound s3
    have hBegin : u.beginStartUp = s3.recoverNext := beginStartUp_eq u
    refine ⟨fun e he => ?_, fun hNone => ⟨_, rfl, ?_⟩⟩
    · rw [hBegin, recoverNext_some (s := s3) he]
    · rw [hBegin, recoverNext_none (s := s3) hNone, testMarks_eq]
      exact ⟨rfl, rfl, rfl, rfl, rfl⟩

/-! ## The events (R25, R112, R113, R127, R161, R183) -/

theorem debounce_settledAs {w : Switch} {l : Level} (hTimer : (s.switch w).timer.isSome = true)
    (hSettled : (s.switch w).settled ≠ none) (hLevel : (s.switch w).candidate = l) :
    exec (.debounceExpiry w) s =
      .next ((s.setSwitch w { s.switch w with settled := some l, timer := none }).switchEvent w l) := by
  subst hLevel
  exact debounce_event hTimer hSettled

theorem sensorsFail_iff (s : State) (d : Four) :
    s.sensorsFail d = true ↔ (s.chan (.primary d)).state = .failed ∨ (s.chan (.secondary d)).state = .failed ∨
      s.field.disagree.get d = true := by
  unfold State.sensorsFail
  rw [Bool.or_eq_true, Bool.or_eq_true, decide_eq_true_iff, decide_eq_true_iff, or_assoc]

/-- Settles O19: each event by `switchEvent`, and the entry to CONNECTING. -/
theorem settledSwitchesGiveTheirEvents : Obligations.SettledSwitchesGiveTheirEvents := by
  refine ⟨fun s => ?_, fun s d => ?_⟩
  · intro settledAs expiring
    have hEvent : ∀ {w l}, expiring w l → exec (.debounceExpiry w) s = .next ((settledAs w l).switchEvent w l) :=
      fun ⟨hTimer, hSettled, hLevel⟩ => debounce_settledAs hTimer hSettled hLevel
    refine ⟨fun d hAt hState hHolder hSweep => ?_, fun d hAt => hEvent hAt, fun d hAt hState => ?_, fun d hAt hState => ?_,
      fun hAt => hEvent hAt, fun staged hAt hSession => ?_, fun hAt => ⟨_, hEvent hAt, ?_, fun hReady => ?_⟩,
      fun hAt => ⟨_, hEvent hAt, ?_, fun hReady hEnabled => ?_⟩, fun w hw hAt hOnly => ?_⟩
    · have hOut : (settledAs (.startButton d) .closed).switch (.holder d) = s.switch (.holder d) :=
        (switch_setSwitch _ _ _ _).trans (if_neg (by simp))
      refine (hEvent hAt).trans (congrArg Host.Outcome.next (if_pos ⟨hState, ?_, hSweep⟩))
      rw [hOut]
      exact hHolder
    · refine (hEvent hAt).trans (congrArg Host.Outcome.next ?_)
      change State.nozzleIn _ d = _
      unfold State.nozzleIn
      split
      · next hEnded => exact absurd hEnded hState
      · rfl
    · refine (hEvent hAt).trans (congrArg Host.Outcome.next ?_)
      have hEnded : ((settledAs (.holder d) .closed).disp d).state = .ended := hState
      change State.nozzleIn _ d = _
      unfold State.nozzleIn
      rw [hEnded]
      rfl
    · refine (hEvent hAt).trans (congrArg Host.Outcome.next ?_)
      have hOpened : (settledAs .sealIn .closed).meter.session = .opened staged := hSession
      change State.sealChange _ .closed = _
      unfold State.sealChange
      rw [hOpened]
      rfl
    · exact take_latch_set _ .esd
    · exact take_latch_shutdown (s := settledAs .esd .opened) hReady rfl
    · exact take_latch_set _ .gasAlarm
    · exact take_latch_shutdown (s := settledAs .gasAlarm .opened) hReady hEnabled
    · rcases hw with rfl | rfl
      · refine (hEvent hAt).trans (congrArg Host.Outcome.next ?_)
        refine (take_latch_only (s := settledAs .esd .opened) (c := .esd) (.inl ?_)).trans rfl
        exact hOnly.resolve_right fun h => absurd h.1 (by decide)
      · refine (hEvent hAt).trans (congrArg Host.Outcome.next ?_)
        exact (take_latch_only (s := settledAs .gasAlarm .opened) (c := .gasAlarm) (hOnly.imp_right (·.2))).trans rfl
  · intro f u failed
    have hFails : s.sensorsFail d = true ↔ failed := sensorsFail_iff s d
    exact ⟨fun h => if_pos (hFails.2 h), fun h => if_neg (hFails.not.2 h)⟩

end Sys2Proof.Machine
end

section
/-!
PROOF. Valves (O20) and the compressor's motor (O21).
-/

namespace Sys2Proof.Machine

variable {s t u : State}

/-! ## Valves (R27 to R30) -/

theorem command_ok {r : ValveRec} (h : r.state = .ok) (l : Level) :
    r.command l =
      (if l = r.commanded then r
       else if r.feedback.settled = some l then
         { r with commanded := l, travel := none, inUse := decide (l = .opened) }
       else { r with commanded := l, travel := some 2000, inUse := if l = .opened then true else r.inUse }, false) := by
  have hUse : (decide (l = .opened) || r.inUse) = if l = .opened then true else r.inUse := by cases l <;> rfl
  unfold ValveRec.command
  rw [h, hUse]
  dsimp only
  split
  · rfl
  · split <;> rfl

theorem command_faulted {r : ValveRec} (h : r.state ≠ .ok) (l : Level) : r.command l = (r, decide (l = .opened)) := by
  unfold ValveRec.command
  split
  · next hOk => exact absurd hOk h
  · rfl

theorem command_state (r : ValveRec) (l : Level) : (r.command l).1.state = r.state := by
  by_cases h : r.state = .ok
  · rw [command_ok h]
    dsimp only
    split
    · rfl
    · split <;> rfl
  · rw [command_faulted h]

/-- The row of a settled feedback, its cases in the model's order. -/
theorem feedbackSettled {v : Valve} (h : (s.valve v).feedback.timer.isSome = true) :
    exec (.valveFeedbackSettled v) s =
      .next
        (let r := s.valve v
         let r' := { r with feedback := r.feedback.settle }
         if r.state ≠ .ok then s.setValve v r'
         else if r.feedback.candidate = r.commanded then
           s.setValve v { r' with travel := none, inUse := r.inUse && decide (r.feedback.candidate = .opened) }
         else if r.travel.isSome then s.setValve v r'
         else if r.feedback.settled = none then s.setValve v { r' with travel := some 2000 }
         else (s.setValve v r').faultValve v (stuckAt r.feedback.candidate)) :=
  congrArg Host.Outcome.next (if_pos h)

theorem stuckAt_eq (l : Level) : stuckAt l = if l = .opened then .stuckOpen else .stuckClosed := by cases l <;> rfl

theorem stuckAt_otherLevel (l : Level) : stuckAt (otherLevel l) = if l = .opened then .stuckClosed else .stuckOpen := by
  cases l <;> rfl

theorem valveFaultTasks_bv (s : State) (b d : Four) (was : ValveRec) (st : ValveState) :
    s.valveFaultTasks (.bv b d) was st =
      (if was.inUse && (s.disp d).state.running then [.endCause d .valve] else []) ++
        if st = .stuckOpen then [.latch .valveStuckOpen none] else [] := rfl

theorem valveFaultTasks_dv (s : State) (d : Four) (was : ValveRec) (st : ValveState) :
    s.valveFaultTasks (.dv d) was st =
      (if (s.disp d).state.running then [.endCause d .valve] else []) ++
        if st = .stuckOpen then [.latch .valveStuckOpen none] else [] := rfl

/-- Settles O20: the command, the two rows, and the hand-over of a fault. -/
theorem valvesTravelAndFault : Obligations.ValvesTravelAndFault := by
  refine ⟨fun r l h => command_ok h l, fun r l h => command_faulted h l, fun v s hTimer => ?_, fun v s hOk hTravel => ?_,
    fun v s st hStuck => ?_, fun s b d was st => ?_⟩
  · intro r r'
    have hRow := feedbackSettled hTimer
    have hStands (h : r.travel = none) : ¬(s.valve v).travel.isSome = true := by
      have hNone : (s.valve v).travel = none := h
      rw [hNone]
      decide
    refine ⟨fun hState => ?_, fun hOk hAt => ?_, fun hOk hAway hTravel => ?_, fun hOk hAway hTravel hFirst => ?_,
      fun hOk hAway hTravel hLater => ?_⟩
    · exact hRow.trans (congrArg Host.Outcome.next (if_pos hState))
    all_goals have hNoFault := not_not.2 hOk
    · refine hRow.trans (congrArg Host.Outcome.next ((if_neg hNoFault).trans ((if_pos hAt).trans ?_)))
      have hUse : (r.inUse && decide (r.feedback.candidate = .opened)) =
          if r.commanded = .closed then false else r.inUse := by
        rw [hAt]
        cases r.commanded
        · exact Bool.and_false _
        · exact Bool.and_true _
      exact congrArg (fun x => s.setValve v { r' with travel := none, inUse := x }) hUse
    · exact hRow.trans (congrArg Host.Outcome.next ((if_neg hNoFault).trans ((if_neg hAway).trans (if_pos hTravel))))
    · exact hRow.trans (congrArg Host.Outcome.next ((if_neg hNoFault).trans ((if_neg hAway).trans ((if_neg (hStands hTravel)).trans
        (if_pos hFirst)))))
    · refine hRow.trans (congrArg Host.Outcome.next ((if_neg hNoFault).trans ((if_neg hAway).trans ((if_neg (hStands hTravel)).trans
        ((if_neg hLater).trans ?_)))))
      rw [stuckAt_eq]
      rfl
  · refine congrArg Host.Outcome.next ((if_pos ⟨hOk, hTravel⟩).trans ?_)
    rw [stuckAt_otherLevel]
  · rcases hStuck with rfl | rfl <;> rfl
  · refine ⟨fun hUse hRun => ?_, fun hIdle => ?_, fun hRun => ?_, fun hRun => ?_, rfl⟩
    · rw [valveFaultTasks_bv, hUse, hRun]
      rfl
    · have hNone : (was.inUse && (s.disp d).state.running) = false := Bool.and_eq_false_iff.2 hIdle
      rw [valveFaultTasks_bv, hNone]
      rfl
    · rw [valveFaultTasks_dv, hRun]
      rfl
    · rw [valveFaultTasks_dv, hRun]
      rfl

/-! ## The motor (R72) -/

theorem feedbackDisagrees_settled {l : Level} (h : s.field.running.settled = some l) :
    s.feedbackDisagrees = decide ((l = .closed) ≠ (s.comp.state.runOutput = true)) := by
  unfold State.feedbackDisagrees
  rw [h]

theorem closeSpell_link (s : State) (b : Four) : (s.closeSpell b).link = s.link := by
  unfold State.closeSpell
  split <;> rfl

theorem closeSpell_field (s : State) (b : Four) : (s.closeSpell b).field = s.field := by
  unfold State.closeSpell
  split <;> rfl

theorem closeSpell_state (s : State) (b : Four) : (s.closeSpell b).comp.state = s.comp.state := by
  unfold State.closeSpell
  split <;> rfl

/-- What the fault finds once a held delivery bank is given back: no delivery, the same notices, CVs at most closed. -/
theorem giveBack_spec (s : State) :
    s.giveBack.comp.delivery = none ∧ s.giveBack.comp.state = s.comp.state ∧ s.giveBack.link = s.link ∧
      ∀ v, (s.giveBack.valve v).state = (s.valve v).state := by
  unfold State.giveBack
  split
  · next hNone => exact ⟨hNone, rfl, rfl, fun _ => rfl⟩
  · next b _ =>
    refine ⟨rfl, closeSpell_state _ b, closeSpell_link _ b, fun v => ?_⟩
    have hValve : (s.endDelivery b).valve v = (s.command (.cv b) .closed).valve v :=
      congrArg (·.valves.get v) (closeSpell_field _ b)
    rw [hValve, valve_command]
    split
    · next hv =>
      rw [command_state, hv]
    · rfl

/-- The compressor in FAULT, before its latch is taken (R72). -/
theorem compFault_spec (s : State) :
    s.compFault.1.comp.state = .fault ∧ s.compFault.1.comp.mismatch = none ∧ s.compFault.1.comp.timer = none ∧
      s.compFault.1.comp.deferral = none ∧ s.compFault.1.comp.deferred = false ∧ s.compFault.1.comp.delivery = none ∧
      s.compFault.1.comp.disablePending = none ∧
      s.compFault.1.link = s.link.post .compressorFault .compressor (if s.comp.state.runOutput then 2 else 1) ∧
      ∀ b, (s.valve (.cv b)).state = .ok → (s.compFault.1.valve (.cv b)).commanded = .closed := by
  obtain ⟨hDelivery, -, hLink, hValves⟩ := giveBack_spec s
  have hClosed := closeAll_eq s.giveBack (Four.all.map .cv)
  refine ⟨rfl, rfl, rfl, rfl, rfl, ?_, rfl, ?_, fun b hOk => ?_⟩
  · have hComp : s.compFault.1.comp.delivery = (s.giveBack.closeAll (Four.all.map .cv)).comp.delivery := rfl
    rw [hComp, hClosed]
    exact hDelivery
  · have hPosted : s.compFault.1.link = (s.giveBack.closeAll (Four.all.map .cv)).link.post .compressorFault .compressor
        (if s.comp.state.runOutput then 2 else 1) := rfl
    rw [hPosted, hClosed]
    exact congrArg (fun l : Link => l.post .compressorFault .compressor (if s.comp.state.runOutput then 2 else 1)) hLink
  · have hValve : s.compFault.1.valve (.cv b) = (s.giveBack.closeAll (Four.all.map .cv)).valve (.cv b) := rfl
    rw [hValve, valve_closeAll, if_pos (List.mem_map.2 ⟨b, four_mem_all b, rfl⟩)]
    exact command_commanded ((hValves (.cv b)).trans hOk) .closed

/-- Settles O21: the comparison of the feedback, and the fault by `compFault_spec`. -/
theorem theMotorIsWatched : Obligations.TheMotorIsWatched := by
  refine ⟨fun s hTimer hState => ?_, fun s hMismatch => ?_⟩
  · have hRow : exec .compressorFeedbackSettled s =
        .next ((s.modField fun f => { f with running := f.running.settle }).compareFeedback) :=
      congrArg Host.Outcome.next (if_pos hTimer)
    have hDisagrees : (s.modField fun f => { f with running := f.running.settle }).feedbackDisagrees =
        decide ((s.field.running.candidate = .closed) ≠ (s.comp.state.runOutput = true)) := feedbackDisagrees_settled rfl
    refine ⟨_, hRow, rfl, ?_, rfl⟩
    refine (if_neg hState).trans ?_
    rw [hDisagrees]
    by_cases hSame : (s.field.running.candidate = .closed) = (s.comp.state.runOutput = true)
    · have hAgrees : ¬decide ((s.field.running.candidate = .closed) ≠ (s.comp.state.runOutput = true)) = true :=
        fun h => of_decide_eq_true h hSame
      rw [if_pos hSame, if_neg hAgrees]
    · rw [if_neg hSame, if_pos (decide_eq_true hSame)]
      rfl
  · have hRow : exec .mismatchTimerExpiry s = .next (s.compFault.1.take [.latch .compressor none]) :=
      congrArg Host.Outcome.next (if_pos hMismatch)
    obtain ⟨hFault, hNoMismatch, hTimer, hDeferral, hDeferred, hDelivery, hPending, hLink, hClosed⟩ := compFault_spec s
    have hSup : s.compFault.1.sup = s.sup := (compFrame_compFault (CompFrame.refl s)).sup
    refine ⟨_, hRow, take_latch_set _ .compressor, fun hOnly => ?_⟩
    have hLatched : s.compFault.1.take [.latch .compressor none] = s.compFault.1.latched .compressor := by
      refine take_latch_only ?_
      unfold State.work
      rw [hSup]
      exact hOnly
    rw [hLatched]
    refine ⟨hFault, hNoMismatch, hTimer, hDeferral, hDeferred, hDelivery, hPending, fun hRoom => ?_, hClosed⟩
    have hPosted : (s.compFault.1.latched .compressor).link = s.compFault.1.link := rfl
    rw [hPosted, hLink]
    unfold Link.post
    rw [if_pos hRoom]

end Sys2Proof.Machine
end

section
/-!
PROOF. The reference sweep judges its channels (O22).
-/

namespace Sys2Proof.Machine

variable {s t u : State}

theorem valve_mem_all (v : Valve) : v ∈ allValves := by
  unfold allValves
  cases v with
  | bv b d =>
    refine List.mem_append_left _ (List.mem_append_left _ (List.mem_flatten.2 ?_))
    exact ⟨_, List.mem_map.2 ⟨b, four_mem_all b, rfl⟩, List.mem_map.2 ⟨d, four_mem_all d, rfl⟩⟩
  | cv b => exact List.mem_append_left _ (List.mem_append_right _ (List.mem_map.2 ⟨b, four_mem_all b, rfl⟩))
  | dv d => exact List.mem_append_right _ (List.mem_map.2 ⟨d, four_mem_all d, rfl⟩)

/-! ## The channel part (R32) -/

theorem sweepStep_idle {c : Converter}
    (h : s.field.sweep.phase ≠ .channels ∨ (sweepChannels c)[(s.field.sweep.conv c).pos]? = none) (i : Nat) :
    exec (.referenceSweepStep c i) s = .next s := by
  refine congrArg Host.Outcome.next ?_
  by_cases hPhase : s.field.sweep.phase = .channels
  · rw [if_pos hPhase]
    unfold State.sweepStep
    dsimp only
    rw [h.resolve_left (not_not.2 hPhase)]
  · rw [if_neg hPhase]

/-- The channel judged by its fifth read, and what follows the end of converter A's list. -/
def State.stepJudged (s : State) (c : Converter) (ch : Channel) (i : Nat) : State :=
  let p := s.field.sweep.conv c
  let t := (s.setConv c ⟨p.pos + 1, []⟩).judgeChannel ch (p.reads ++ [i])
  if c = .a ∧ p.pos = 11 then t.beginValvePart else t

theorem sweepStep_channel {c : Converter} {ch : Channel} (hPhase : s.field.sweep.phase = .channels)
    (hChannel : (sweepChannels c)[(s.field.sweep.conv c).pos]? = some ch) (i : Nat) :
    exec (.referenceSweepStep c i) s =
      .next (if (s.field.sweep.conv c).reads.length < 4 then
          s.setConv c { s.field.sweep.conv c with reads := (s.field.sweep.conv c).reads ++ [i] }
        else s.stepJudged c ch i) := by
  have hLast : (s.field.sweep.conv c).pos + 1 = 12 ↔ (s.field.sweep.conv c).pos = 11 := by omega
  have hFew : ((s.field.sweep.conv c).reads ++ [i]).length < 5 ↔ (s.field.sweep.conv c).reads.length < 4 := by
    rw [List.length_append, List.length_singleton]
    omega
  refine congrArg Host.Outcome.next ((if_pos hPhase).trans ?_)
  unfold State.sweepStep State.stepJudged
  dsimp only
  rw [hChannel]
  dsimp only
  simp only [hFew, hLast]

theorem judgeChannel_pass {ch : Channel} {reads : List Nat} (h : sweepPasses reads = true) :
    s.judgeChannel ch reads = s.setChan ch { s.chan ch with ref := .pass } := if_pos h

theorem judgeChannel_still {ch : Channel} {reads : List Nat} (h : sweepPasses reads = false)
    (hFailed : (s.chan ch).state = .failed ∧ (s.chan ch).ref = .fail) :
    s.judgeChannel ch reads = settled (s.handFailed ch) :=
  (if_neg (by rw [h]; decide)).trans (if_pos hFailed)

theorem judgeChannel_fails {ch : Channel} {reads : List Nat} (h : sweepPasses reads = false)
    (hFailed : ¬((s.chan ch).state = .failed ∧ (s.chan ch).ref = .fail)) :
    s.judgeChannel ch reads =
      settled (((s.setChan ch { s.chan ch with ref := .fail, state := .failed, hold := none }).post .channelFault
        (channelSource ch) (512 + channelNumber ch)).handFailed ch) :=
  (if_neg (by rw [h]; decide)).trans (if_neg hFailed)

theorem sweepPasses_iff (r1 low r2 high r3 : Nat) :
    sweepPasses [r1, low, r2, high, r3] = true ↔
      (3920 ≤ low ∧ low ≤ 4080 ∧ 19920 ≤ high ∧ high ≤ 20080 ∧ r1 ≤ r2 + 160 ∧ r2 ≤ r1 + 160 ∧
        r1 ≤ r3 + 160 ∧ r3 ≤ r1 + 160 ∧ r2 ≤ r3 + 160 ∧ r3 ≤ r2 + 160) := by
  unfold sweepPasses gap
  simp only [Bool.and_eq_true, decide_eq_true_eq]
  omega

/-! ## The valve part (R33) -/

theorem beginValvePart_eq (s : State) :
    s.beginValvePart =
      { s with
        sup := { s.sup with station := if s.sup.station = .startUp .s4 then .startUp .s5 else s.sup.station },
        field := { s.field with
          valves := (s.closeAll allValves).field.valves,
          sweep := { s.field.sweep with phase := .valves, wait := some 2000 } } } := by
  obtain ⟨w, hw⟩ : ∃ w, s.closeAll allValves = { s with field := { s.field with valves := w } } :=
    ⟨_, closeAll_eq s allValves⟩
  unfold State.beginValvePart
  rw [hw]
  by_cases hS4 : s.sup.station = .startUp .s4
  · rw [if_pos hS4, if_pos hS4]
    rfl
  · rw [if_neg hS4, if_neg hS4]
    rfl

/-- Settles O22: the reads gathered, the judgement, the valve part and the test of the reads. -/
theorem theSweepJudgesChannels : Obligations.TheSweepJudgesChannels := by
  refine ⟨fun c i s ch hPhase hChannel => ?_, fun c i s h => sweepStep_idle h i, fun s => ⟨_, beginValvePart_eq s, fun v => ?_, rfl, rfl⟩,
    sweepPasses_iff⟩
  · intro p next failed goOn
    have hStep := sweepStep_channel hPhase hChannel i
    have hJudged : s.stepJudged c ch i = goOn (next.judgeChannel ch (p.reads ++ [i])) := rfl
    refine ⟨fun hFew => hStep.trans (congrArg Host.Outcome.next (if_pos hFew)), fun hFour => ?_⟩
    have hFifth : exec (.referenceSweepStep c i) s = .next (goOn (next.judgeChannel ch (p.reads ++ [i]))) :=
      hStep.trans (congrArg Host.Outcome.next ((if_neg (Nat.not_lt.2 (Nat.le_of_eq hFour.symm))).trans hJudged))
    refine ⟨fun hPass => ?_, fun hFail hFresh => ⟨?_, ?_⟩, fun hFail hState hRef => ?_⟩
    · rw [hFifth, judgeChannel_pass (s := next) hPass]
      rfl
    · rw [hFifth, judgeChannel_fails (s := next) hFail hFresh]
      rfl
    · have hPosted : SameChans (next.setChan ch { s.chan ch with ref := .fail, state := .failed, hold := none }) failed := rfl
      exact ((hPosted.handFailed ch).settled.chan ch).trans ((chan_setChan _ _ _ _).trans (if_pos rfl))
    · rw [hFifth, judgeChannel_still (s := next) hFail ⟨hState, hRef⟩]
  · have hClosed := (valve_closeAll s allValves v).trans (if_pos (valve_mem_all v))
    unfold State.valve at hClosed ⊢
    exact hClosed

end Sys2Proof.Machine
end

section
/-!
PROOF. The end of a sweep, stage S6 and SELFTEST (O23).
-/

namespace Sys2Proof.Machine

variable {s t u : State}

/-! ## The valves read (R33) -/

theorem readValve_closed {v : Valve} (h : (s.valve v).feedback.settled = some .closed) :
    s.readValve v = s.setValve v { s.valve v with state := .ok } := by
  unfold State.readValve
  dsimp only
  rw [h]

theorem readValve_opened {v : Valve} (h : (s.valve v).feedback.settled = some .opened) :
    s.readValve v = if (s.valve v).state = .stuckOpen then s else s.faultValve v .stuckOpen := by
  unfold State.readValve
  dsimp only
  rw [h]

theorem readValve_unsettled {v : Valve} (h : (s.valve v).feedback.settled = none) : s.readValve v = s := by
  unfold State.readValve
  dsimp only
  rw [h]

/-- Valves whose feedbacks are all CLOSED, read in turn: each becomes OK, and nothing else changes. -/
theorem readValves_closed : ∀ (vs : List Valve) (t : State), (∀ v, (t.valve v).feedback.settled = some .closed) →
    (∀ w, (vs.foldl (fun t v => t.readValve v) t).valve w = if w ∈ vs then { t.valve w with state := .ok } else t.valve w) ∧
    ∃ q, vs.foldl (fun t v => t.readValve v) t = { t with field := { t.field with valves := q } }
  | [], t, _ => ⟨fun w => (if_neg List.not_mem_nil).symm, t.field.valves, rfl⟩
  | v :: vs, t, h => by
    have hRead := readValve_closed (h v)
    have hValve (w : Valve) : (t.readValve v).valve w = if w = v then { t.valve v with state := .ok } else t.valve w := by
      rw [hRead]
      exact valve_setValve _ _ _ _
    have hClosed (w : Valve) : ((t.readValve v).valve w).feedback.settled = some .closed := by
      rw [hValve]
      split
      · exact h v
      · exact h w
    obtain ⟨hRest, q, hq⟩ := readValves_closed vs (t.readValve v) hClosed
    refine ⟨fun w => ?_, q, ?_⟩
    · rw [List.foldl_cons, hRest, hValve]
      by_cases hw : w = v
      · subst hw
        simp
      · simp [hw]
    · rw [List.foldl_cons, hq, hRead]
      rfl

theorem endSweep_eq {reads : State} (h : reads = allValves.foldl (fun t v => t.readValve v) s) :
    s.endSweep =
      let ended : State := { reads with field := { reads.field with sweep := ⟨.idle, ⟨0, []⟩, ⟨0, []⟩, none⟩ } }
      if s.sup.station = .startUp .s5 then ended.finishStartUp else ended.evalStart := by
  unfold State.endSweep
  rw [← h]
  rfl

/-! ## Stage S6 (R179) -/

/-- One dispenser opened at start-up where it is configured so. -/
def State.openOne (t : State) (d : Four) : State :=
  if (t.dispCfg d).openAtStart then t.modDisp d fun p => { p with state := .idle } else t

theorem openedAtStart_fold (s : State) : s.openedAtStart = Four.all.foldl State.openOne s := rfl

theorem disp_openOne (t : State) (d e : Four) :
    (t.openOne d).disp e =
      if e = d ∧ (t.dispCfg e).openAtStart = true then { t.disp e with state := .idle } else t.disp e := by
  unfold State.openOne
  by_cases hOpen : (t.dispCfg d).openAtStart = true
  · rw [if_pos hOpen, disp_modDisp]
    by_cases hed : e = d
    · subst hed
      rw [if_pos rfl, if_pos ⟨rfl, hOpen⟩]
    · rw [if_neg hed, if_neg fun h => hed h.1]
  · have hNot : ¬(e = d ∧ (t.dispCfg e).openAtStart = true) := fun h => hOpen (h.1 ▸ h.2)
    rw [if_neg hOpen, if_neg hNot]

theorem openOne_frame (t : State) (d : Four) : ∃ q, t.openOne d = { t with disps := q } := by
  unfold State.openOne
  split
  · exact ⟨_, rfl⟩
  · exact ⟨_, rfl⟩

theorem openFold_spec : ∀ (ds : List Four) (t : State),
    (∀ e, (ds.foldl State.openOne t).disp e =
      if e ∈ ds ∧ (t.dispCfg e).openAtStart = true then { t.disp e with state := .idle } else t.disp e) ∧
    ∃ q, ds.foldl State.openOne t = { t with disps := q }
  | [], t => ⟨fun e => by simp, t.disps, rfl⟩
  | d :: ds, t => by
    obtain ⟨hRest, q, hq⟩ := openFold_spec ds (t.openOne d)
    obtain ⟨r, hr⟩ := openOne_frame t d
    have hCfg (e : Four) : (t.openOne d).dispCfg e = t.dispCfg e := by rw [hr]; rfl
    refine ⟨fun e => ?_, q, ?_⟩
    · rw [List.foldl_cons, hRest, hCfg, disp_openOne]
      by_cases hed : e = d
      · subst hed
        by_cases hOpen : (t.dispCfg e).openAtStart = true <;> simp [hOpen]
      · simp [hed]
    · rw [List.foldl_cons, hq, hr]

theorem fault_split (c : FaultCause) :
    FaultCause.all = FaultCause.all.filter (fun k => decide (k.code < c.code)) ++
      c :: FaultCause.all.filter fun k => decide (c.code < k.code) := by
  cases c <;> rfl

theorem shutdownCause_none (h : ∀ c, s.sup.latches.get c = true → SiteCfg.enabled s.work.site c = false) :
    s.shutdownCause = none := by
  unfold State.shutdownCause
  rw [List.find?_eq_none]
  intro c _ hc
  rw [Bool.and_eq_true] at hc
  rw [h c hc.1] at hc
  exact absurd hc.2 (by decide)

/-- The lowest latched cause that is enabled (R179 step 5). -/
theorem shutdownCause_least {c : FaultCause} (hLatched : s.sup.latches.get c = true)
    (hEnabled : SiteCfg.enabled s.work.site c = true)
    (hLeast : ∀ k, s.sup.latches.get k = true → SiteCfg.enabled s.work.site k = true → c.code ≤ k.code) :
    s.shutdownCause = some c := by
  unfold State.shutdownCause
  rw [List.find?_eq_some_iff_append]
  refine ⟨by rw [hLatched, hEnabled]; rfl, _, _, fault_split c, fun k hk => ?_⟩
  have hBelow : k.code < c.code := of_decide_eq_true (List.mem_filter.1 hk).2
  rw [Bool.not_eq_true', Bool.eq_false_iff]
  intro hBoth
  rw [Bool.and_eq_true] at hBoth
  exact absurd (hLeast k hBoth.1 hBoth.2) (Nat.not_le.2 hBelow)

theorem startUpDone_of {q : Quad Dispenser} (h : s.openedAtStart = { s with disps := q }) :
    s.startUpDone =
      { s with
        disps := q,
        sup := { s.sup with
          station := .startUp .s6,
          latches := { s.sup.latches with
            esd := s.sup.latches.esd || decide ((s.switch .esd).settled = some .opened),
            gasAlarm := s.sup.latches.gasAlarm || decide ((s.switch .gasAlarm).settled = some .opened) } },
        link := s.link.post .startUpDone .station
          (256 * s.sup.resetKind.code + (s.sup.configDefaulted.toNat + 2 * s.sup.latches.metrology.toNat)) } := by
  unfold State.startUpDone
  rw [h]
  rfl

/-! ## SELFTEST (R34) -/

theorem selftest_sweeping (h : u.sweepActive = true) : u.selftest = (u, notNow .state) := if_pos h

theorem selftest_filling (h : u.sweepActive = false) (hFill : u.anyFilling = true) : u.selftest = (u, notNow .filling) :=
  (if_neg (by rw [h]; decide)).trans (if_pos hFill)

theorem selftest_atRest (h : u.sweepActive = false) (hFill : u.anyFilling = false) :
    u.selftest =
      if u.comp.state = .idle ∨ u.comp.state = .rest ∨ u.comp.state = .disabled then (u.beginSweep, okAnswer)
      else (u, notNow .compressor) := by
  unfold State.selftest
  rw [if_neg (by rw [h]; decide), if_neg (by rw [hFill]; decide)]
  cases u.comp.state <;> rfl

/-- Settles O23: the reads, their valves, stage S6 and SELFTEST. -/
theorem theSweepBeginsAndEnds : Obligations.TheSweepBeginsAndEnds := by
  refine ⟨fun s hPhase hWait => ?_, fun s v => ⟨readValve_closed, fun hOpen hState => ?_, fun hOpen hState => ?_,
    readValve_unsettled⟩, fun u => ?_, fun s u g h => ⟨fun hSweep => ?_, fun hSweep hFill => ?_,
    fun hSweep hFill hIdle hRest hDisabled => ?_, fun hSweep hFill hState => ?_⟩⟩
  · intro reads ended
    have hRow : exec .sweepValveWaitExpiry s = .next s.endSweep := congrArg Host.Outcome.next (if_pos ⟨hPhase, hWait⟩)
    refine ⟨hRow.trans (congrArg Host.Outcome.next (endSweep_eq (reads := reads) rfl)), fun hClosed => ?_⟩
    obtain ⟨hValves, q, hq⟩ := readValves_closed allValves s hClosed
    have hReads : reads = { s with field := { s.field with valves := q } } := hq
    have hEnded : ended = { s with
        field := { s.field with valves := q, sweep := ⟨.idle, ⟨0, []⟩, ⟨0, []⟩, none⟩ } } :=
      congrArg (fun t : State => { t with field := { t.field with sweep := ⟨.idle, ⟨0, []⟩, ⟨0, []⟩, none⟩ } }) hReads
    rw [hq] at hValves
    rw [hEnded]
    exact ⟨fun v => (hValves v).trans (if_pos (valve_mem_all v)), rfl, rfl⟩
  · rw [readValve_opened hOpen, if_neg hState]
  · rw [readValve_opened hOpen, if_pos hState]
  · obtain ⟨hDisp, q, hq⟩ := openFold_spec Four.all u
    have hOpened : u.openedAtStart = { u with disps := q } := hq
    refine ⟨u.openedAtStart, fun d => ?_, ?_, ?_⟩
    · rw [openedAtStart_fold, hDisp]
      simp only [four_mem_all, true_and]
    · rw [hOpened]
    · intro kind done
      have hKind : u.sup.resetKind.code = kind := by
        simp only [kind]
        cases u.sup.resetKind <;> rfl
      have hDone : u.startUpDone = done := by
        rw [startUpDone_of hOpened, hKind]
        exact (congrArg (fun o : State => { o with sup := done.sup, link := done.link }) hOpened).symm
      refine ⟨fun hNone => ?_, fun c hLatched hEnabled hLeast => ?_⟩
      · have hCause : done.shutdownCause = none := shutdownCause_none (s := done) (by
          unfold State.work
          exact hNone)
        rw [finishStartUp_eq, hDone, hCause]
        rfl
      · have hCause : done.shutdownCause = some c := shutdownCause_least (s := done) hLatched hEnabled hLeast
        rw [finishStartUp_eq, hDone, hCause]
  · exact congrArg Host.Outcome.next (takeRequest_answering h rfl rfl (selftest_sweeping hSweep))
  · exact congrArg Host.Outcome.next (takeRequest_answering h rfl rfl (selftest_filling hSweep hFill))
  · refine congrArg Host.Outcome.next (takeRequest_answering h rfl rfl ((selftest_atRest hSweep hFill).trans (if_neg ?_)))
    rintro (h | h | h)
    · exact hIdle h
    · exact hRest h
    · exact hDisabled h
  · exact congrArg Host.Outcome.next (takeRequest_answering h rfl rfl ((selftest_atRest hSweep hFill).trans (if_pos hState)))

end Sys2Proof.Machine
end

section
/-!
PROOF. The grant walk, grants and their taking (O24).
-/

namespace Sys2Proof.Machine

variable {s t u : State}

/-! ## The walk (R39, R42, R48) -/

theorem find?_first {α : Type} {l pre post : List α} {b : α} {p : α → Bool} (hl : l = pre ++ b :: post) (hb : p b = true)
    (hPre : ∀ c ∈ pre, p c = false) : l.find? p = some b := by
  rw [List.find?_eq_some_iff_append]
  exact ⟨hb, pre, post, hl, fun c hc => by rw [hPre c hc]; rfl⟩

/-- Whether a walk of `d` considers `b`, the bank of an expired wait left out (R42, R48). -/
def State.considers (s : State) (d : Four) (expired : Option Four) (b : Four) : Bool :=
  s.qualifies d b && decide (expired ≠ some b)

theorem considers_fresh (s : State) (d b : Four) : s.considers d none b = s.qualifies d b := by
  unfold State.considers
  rw [decide_eq_true (by simp), Bool.and_true]

theorem considers_expired (s : State) (d x b : Four) : s.considers d (some x) b = (s.qualifies d b && decide (b ≠ x)) := by
  unfold State.considers
  congr 1
  exact decide_eq_decide.2 ⟨fun h hb => h (congrArg some hb.symm), fun h hx => h (Option.some.inj hx).symm⟩

/-- The walk by the first free bank considered, then the first considered at all (R42). -/
theorem walk_eq {d : Four} (hAsks : (s.disp d).state.asksForBank = true) (x : Option Four) :
    s.walk d x =
      ((s.dispCfg d).cascade.find? fun b => s.considers d x b && (s.bank b).state.free).elim
        ((if x.isSome then none else (s.dispCfg d).cascade.find? (s.considers d x)).elim
          (s, [.endCause d
            (if (s.disp d).state = .fuelling then (if x.isSome then .supplyWait else .supplyExhausted) else .noSupply)])
          fun b => (s.joinWaitList d b, []))
        fun b => (s, [.grant d b]) := by
  have hCandidates : s.candidates d x = (s.dispCfg d).cascade.filter (s.considers d x) := rfl
  have hFree : (fun a => decide (s.considers d x a = true ∧ (s.bank a).state.free = true)) =
      fun b => s.considers d x b && (s.bank b).state.free :=
    funext fun b => by rw [Bool.decide_and, Bool.decide_eq_true, Bool.decide_eq_true]
  unfold State.walk
  dsimp only
  rw [if_pos hAsks, hCandidates, List.find?_filter, List.head?_filter, hFree]
  cases (s.dispCfg d).cascade.find? fun b => s.considers d x b && (s.bank b).state.free with
  | some b => rfl
  | none => cases (if x.isSome then none else (s.dispCfg d).cascade.find? (s.considers d x)) <;> rfl

theorem walk_grants {d b : Four} {x : Option Four} {pre post : List Four} (hAsks : (s.disp d).state.asksForBank = true)
    (hCascade : (s.dispCfg d).cascade = pre ++ b :: post) (hb : s.considers d x b = true) (hFree : (s.bank b).state.free = true)
    (hPre : ∀ c ∈ pre, s.considers d x c = false ∨ (s.bank c).state.free = false) : s.walk d x = (s, [.grant d b]) := by
  rw [walk_eq hAsks, find?_first (p := fun b => s.considers d x b && (s.bank b).state.free) hCascade (by rw [hb, hFree]; rfl)
    fun c hc => Bool.and_eq_false_iff.2 (hPre c hc), Option.elim_some]

theorem noneFree {d : Four} {x : Option Four}
    (h : ∀ c ∈ (s.dispCfg d).cascade, s.considers d x c = false ∨ (s.bank c).state.free = false) :
    ((s.dispCfg d).cascade.find? fun b => s.considers d x b && (s.bank b).state.free) = none := by
  rw [List.find?_eq_none]
  intro c hc
  rw [Bool.and_eq_false_iff.2 (h c hc)]
  decide

theorem walk_waits {d b : Four} {pre post : List Four} (hAsks : (s.disp d).state.asksForBank = true)
    (hCascade : (s.dispCfg d).cascade = pre ++ b :: post) (hb : s.qualifies d b = true)
    (hNone : ∀ c ∈ (s.dispCfg d).cascade, s.qualifies d c = false ∨ (s.bank c).state.free = false)
    (hPre : ∀ c ∈ pre, s.qualifies d c = false) : s.walk d none = (s.joinWaitList d b, []) := by
  have hNoneFree := noneFree (s := s) (d := d) (x := none) fun c hc => by
    rw [considers_fresh]
    exact hNone c hc
  have hFirst : (s.dispCfg d).cascade.find? (s.considers d none) = some b :=
    find?_first hCascade (by rw [considers_fresh]; exact hb) fun c hc => by
      rw [considers_fresh]
      exact hPre c hc
  rw [walk_eq hAsks, hNoneFree, Option.elim_none, Option.isSome_none, if_neg Bool.false_ne_true, hFirst,
    Option.elim_some]

theorem walk_none {d : Four} (hAsks : (s.disp d).state.asksForBank = true)
    (hNone : ∀ c ∈ (s.dispCfg d).cascade, s.qualifies d c = false) :
    s.walk d none = (s, [.endCause d (if (s.disp d).state = .fuelling then .supplyExhausted else .noSupply)]) := by
  have hNoneFree := noneFree (s := s) (d := d) (x := none) fun c hc => .inl (by
    rw [considers_fresh]
    exact hNone c hc)
  have hFirst : (s.dispCfg d).cascade.find? (s.considers d none) = none := by
    rw [List.find?_eq_none]
    intro c hc
    rw [considers_fresh, hNone c hc]
    decide
  rw [walk_eq hAsks, hNoneFree, Option.elim_none, Option.isSome_none, if_neg Bool.false_ne_true, hFirst, Option.elim_none,
    if_neg Bool.false_ne_true]

theorem walk_expired_none {d x : Four} (hAsks : (s.disp d).state.asksForBank = true)
    (hNone : ∀ c ∈ (s.dispCfg d).cascade, s.considers d (some x) c = false ∨ (s.bank c).state.free = false) :
    s.walk d (some x) = (s, [.endCause d (if (s.disp d).state = .fuelling then .supplyWait else .noSupply)]) := by
  rw [walk_eq hAsks, noneFree hNone, Option.elim_none]
  exact congrArg (fun c => (s, [Task.endCause d (if (s.disp d).state = .fuelling then c else .noSupply)])) (if_pos rfl)

/-! ## Grants (R43, R44) -/

/-- The bank records and their marks after a grant (R43). -/
def State.grantedBanks (s : State) (d b : Four) (position : Quad (Option Four)) : Banks :=
  { s.banks with
    recs := s.banks.recs.modify b fun k => { k with state := .drawing d, window := some (s.openWindow d b) },
    grant := s.banks.grant.set d (some b), lag := s.banks.lag.set d 0, wait := s.banks.wait.set d none,
    position := position }

theorem recordGrant_fuelling {d b : Four} (h : (s.disp d).state = .fuelling) :
    s.recordGrant d b =
      { s with
        banks := s.grantedBanks d b (s.banks.position.set d (some b)),
        disps := s.disps.modify d fun p =>
          { p with fill := p.fill.map fun f => { f with usage := f.usage ++ [⟨b, 0⟩] } } } := by
  unfold State.recordGrant
  dsimp only
  rw [decide_eq_true h]
  rfl

theorem recordGrant_other {d b : Four} (h : (s.disp d).state ≠ .fuelling) :
    s.recordGrant d b = { s with banks := s.grantedBanks d b s.banks.position } := by
  unfold State.recordGrant
  dsimp only
  rw [decide_eq_false h]
  rfl

theorem grantedBanks_recs (s : State) (d b : Four) (position : Quad (Option Four)) (c : Four) :
    (s.grantedBanks d b position).recs.get c =
      if c = b then { s.bank b with state := .drawing d, window := some (s.openWindow d b) } else s.bank c := by
  refine (quad_get_modify _ _ _ _).trans ?_
  by_cases hcb : c = b
  · subst hcb
    rw [if_pos rfl, if_pos rfl]
    rfl
  · rw [if_neg hcb, if_neg hcb]
    rfl

theorem grant_eq (s : State) (d b : Four) :
    s.grant d b =
      match decide ((s.bank b).state = .refilling), s.banks.grant.get d with
      | false, none => ((s.recordGrant d b).evalStart, [.takeGrant d b none])
      | true, none => ((s.recordGrant d b).evalStart, [.lose b, .takeGrant d b none])
      | false, some old => ((s.recordGrant d b).evalStart, [.release old d, .takeGrant d b (some old)])
      | true, some old =>
        ({ (s.recordGrant d b).evalStart with freeIx := (s.recordGrant d b).evalStart.freeIx + 1 },
          if Config.lossToldFirst (s.recordGrant d b).evalStart.freeIx then
            [.lose b, .release old d, .takeGrant d b (some old)]
          else [.release old d, .lose b, .takeGrant d b (some old)]) := by
  unfold State.grant
  dsimp only
  cases s.banks.grant.get d <;> cases decide ((s.bank b).state = .refilling) <;> rfl

/-! ## Grants taken in FUELLING (R123, R125) -/

theorem state_command (s : State) (v w : Valve) (l : Level) : ((s.command v l).valve w).state = (s.valve w).state := by
  rw [valve_command]
  split
  · next hwv => rw [command_state, hwv]
  · rfl

/-- The valves opened and WAIT_BANK cleared as a grant is taken in FUELLING. -/
def State.drawFrom (t : State) (d b : Four) : State :=
  ((t.command (.bv b d) .opened).command (.dv d) .opened).modDisp d fun p =>
    { p with waitBank := false, fill := p.fill.map fun f => { f with currentBank := some b } }

/-- The bank drawn from before, its valve closed. -/
def State.shutOld (s : State) (d : Four) (old : Option Four) : State := old.elim s fun b0 => s.command (.bv b0 d) .closed

/-- Whether a faulted valve answers the draw's commands (R125). -/
def State.drawStuck (t : State) (d b : Four) : Bool :=
  t.answersFaulted (.bv b d) || (decide ((t.valve (.dv d)).commanded = .closed) && t.answersFaulted (.dv d))

theorem takeGrant_draws {d b : Four} {old : Option Four} (hState : (s.disp d).state = .fuelling)
    (hGrant : s.banks.grant.get d = some b) :
    s.takeGrant d b old =
      (if old.isSome then ((s.shutOld d old).drawFrom d b).checkpoint d else (s.shutOld d old).drawFrom d b,
        if (s.shutOld d old).drawStuck d b then [.endCause d .valve] else []) := by
  unfold State.takeGrant
  rw [if_pos hGrant, hState]
  rfl

theorem shutOld_state (s : State) (d : Four) (old : Option Four) (v : Valve) :
    ((s.shutOld d old).valve v).state = (s.valve v).state := by
  cases old with
  | none => rfl
  | some b0 => exact state_command s _ v .closed

theorem shutOld_dv (s : State) (d : Four) (old : Option Four) : (s.shutOld d old).valve (.dv d) = s.valve (.dv d) := by
  cases old with
  | none => rfl
  | some b0 => exact (valve_command _ _ _ _).trans (if_neg (by simp))

theorem drawStuck_shutOld (s : State) (d b : Four) (old : Option Four) :
    (s.shutOld d old).drawStuck d b = s.drawStuck d b := by
  unfold State.drawStuck State.answersFaulted
  rw [shutOld_state, shutOld_dv]

theorem drawStuck_iff (s : State) (d b : Four) :
    s.drawStuck d b = true ↔ (s.valve (.bv b d)).state ≠ .ok ∨
      ((s.valve (.dv d)).state ≠ .ok ∧ (s.valve (.dv d)).commanded = .closed) := by
  unfold State.drawStuck State.answersFaulted
  rw [Bool.or_eq_true, Bool.and_eq_true, decide_eq_true_iff, decide_eq_true_iff, decide_eq_true_iff, and_comm]

/-! ## Qualification (R39) -/

theorem pBank_eq_some (s : State) (b : Four) (p : Nat) :
    s.pBank b = some p ↔ (s.chan (.bank b)).state ≠ .failed ∧ (s.chan (.bank b)).pressure = some p := by
  unfold State.pBank ChanRec.usablePressure ChanRec.usable
  by_cases hFailed : (s.chan (.bank b)).state = .failed
  · rw [if_pos hFailed]
    exact ⟨fun h => (by cases h), fun h => absurd hFailed h.1⟩
  · rw [if_neg hFailed]
    exact ⟨fun h => ⟨hFailed, h⟩, fun h => h.2⟩

/-- The pressures of R39: a usable bank pressure of P_min or more and ΔP_min or more over P_disp. -/
def State.pressureServes (s : State) (d b : Four) : Bool :=
  match s.pBank b, s.pDisp d with
  | some pb, some pd => decide ((s.bankCfg b).pMin ≤ pb) && decide (pd + s.work.site.dPMin ≤ pb)
  | _, _ => false

/-- A bank beyond the position of `d` in rank (R39). -/
def State.beyondPosition (s : State) (d b : Four) : Bool :=
  match s.banks.position.get d with
  | none => true
  | some p => decide ((s.bankCfg p).rank < (s.bankCfg b).rank)

theorem qualifies_eq (s : State) (d b : Four) :
    s.qualifies d b =
      ((s.dispCfg d).cascade.contains b && s.beyondPosition d b && decide ((s.bank b).state ≠ .isolated) &&
        !(s.bank b).isolatePending && decide ((s.valve (.bv b d)).state = .ok) && s.pressureServes d b) := rfl

theorem pressureServes_iff (s : State) (d b : Four) :
    s.pressureServes d b = true ↔
    ∃ pb, (s.chan (.bank b)).state ≠ .failed ∧ (s.chan (.bank b)).pressure = some pb ∧ (s.bankCfg b).pMin ≤ pb ∧
      ∃ pd, (s.chan (.primary d)).pressure = some pd ∧ pd + s.work.site.dPMin ≤ pb := by
  have hDisp : s.pDisp d = (s.chan (.primary d)).pressure := rfl
  unfold State.pressureServes
  constructor
  · intro h
    split at h
    · next pb pd hb hd =>
      obtain ⟨hUsable, hPb⟩ := (pBank_eq_some s b pb).1 hb
      rw [Bool.and_eq_true, decide_eq_true_iff, decide_eq_true_iff] at h
      exact ⟨pb, hUsable, hPb, h.1, pd, hd, h.2⟩
    · cases h
  · rintro ⟨pb, hUsable, hPb, hMin, pd, hd, hOver⟩
    rw [(pBank_eq_some s b pb).2 ⟨hUsable, hPb⟩, hDisp, hd]
    exact Bool.and_eq_true_iff.2 ⟨decide_eq_true hMin, decide_eq_true hOver⟩

theorem beyondPosition_iff (s : State) (d b : Four) :
    s.beyondPosition d b = true ↔
      ∀ p, s.banks.position.get d = some p → (s.bankCfg p).rank < (s.bankCfg b).rank := by
  unfold State.beyondPosition
  cases s.banks.position.get d <;> simp

theorem qualifies_iff (s : State) (d b : Four) :
    s.qualifies d b = true ↔
      b ∈ (s.dispCfg d).cascade ∧
      (∀ p, s.banks.position.get d = some p → (s.bankCfg p).rank < (s.bankCfg b).rank) ∧
      ((s.bank b).state ≠ .isolated ∧ (s.bank b).isolatePending = false) ∧
      (s.valve (.bv b d)).state = .ok ∧
      ∃ pb, (s.chan (.bank b)).state ≠ .failed ∧ (s.chan (.bank b)).pressure = some pb ∧ (s.bankCfg b).pMin ≤ pb ∧
        ∃ pd, (s.chan (.primary d)).pressure = some pd ∧ pd + s.work.site.dPMin ≤ pb := by
  simp only [qualifies_eq, ← pressureServes_iff, ← beyondPosition_iff, Bool.and_eq_true, List.contains_iff_mem,
    decide_eq_true_eq, Bool.not_eq_true', and_assoc]

/-- Settles O24: the walk, the grant's record and hand-over, its taking, and qualification. -/
theorem theGrantWalkTakesTheFirstFreeBank : Obligations.TheGrantWalkTakesTheFirstFreeBank := by
  refine ⟨fun s d hAsks => ⟨fun pre b post hCascade hb hFree hPre => ?_, fun pre b post hCascade hb hNone hPre => ?_,
    walk_none hAsks⟩, fun s d x hAsks => ⟨fun pre b post hCascade hb hbx hFree hPre => ?_, fun hNone => ?_⟩, fun s d b => ?_,
    fun s d b hState hGrant => ?_, qualifies_iff⟩
  · refine walk_grants hAsks hCascade ?_ hFree fun c hc => ?_
    · rw [considers_fresh]
      exact hb
    · rw [considers_fresh]
      exact hPre c hc
  · refine walk_waits hAsks hCascade hb (fun c hc => ?_) hPre
    cases hc' : s.qualifies d c with
    | false => exact .inl rfl
    | true => exact .inr (hNone c hc hc')
  · refine walk_grants hAsks hCascade ?_ hFree fun c hc => ?_
    · rw [considers_expired, hb, decide_eq_true hbx]
      rfl
    · rw [considers_expired]
      rcases hPre c hc with rfl | hNot | hBusy
      · exact .inl (by simp)
      · exact .inl (by rw [hNot]; rfl)
      · exact .inr hBusy
  · refine walk_expired_none hAsks fun c hc => ?_
    rw [considers_expired]
    rcases hNone c hc with rfl | hNot | hBusy
    · exact .inl (by simp)
    · exact .inl (by rw [hNot]; rfl)
    · exact .inr hBusy
  · intro fuelling w t
    have hRecord : ∃ position disps, t = { s with banks := s.grantedBanks d b position, disps := disps } ∧
        (fuelling → position = s.banks.position.set d (some b) ∧ disps = s.disps.modify d fun p =>
          { p with fill := p.fill.map fun f => { f with usage := f.usage ++ [⟨b, 0⟩] } }) ∧
        (¬fuelling → position = s.banks.position ∧ disps = s.disps) := by
      by_cases hFuelling : fuelling
      · exact ⟨_, _, recordGrant_fuelling hFuelling, fun _ => ⟨rfl, rfl⟩, fun h => absurd hFuelling h⟩
      · exact ⟨_, s.disps, recordGrant_other hFuelling, fun h => absurd h hFuelling, fun _ => ⟨rfl, rfl⟩⟩
    obtain ⟨position, disps, ht, hFuelling, hOther⟩ := hRecord
    have hBank (c : Four) := grantedBanks_recs s d b position c
    refine ⟨?_, fun c hc => ?_, ?_, ?_, ?_, fun h => ?_, fun h => ?_, ?_, ?_⟩
    · rw [ht]
      exact (hBank b).trans (if_pos rfl)
    · rw [ht]
      exact (hBank c).trans (if_neg hc)
    · rw [ht]
      rfl
    · rw [ht]
      rfl
    · rw [ht]
      rfl
    · obtain ⟨hPosition, hDisps⟩ := hFuelling h
      rw [ht, hPosition, hDisps]
      exact ⟨rfl, congrArg Dispenser.fill ((quad_get_modify _ _ _ _).trans (if_pos rfl))⟩
    · obtain ⟨hPosition, hDisps⟩ := hOther h
      rw [ht, hPosition, hDisps]
      exact ⟨rfl, rfl⟩
    · rw [ht]
    · intro u
      have hGrant := grant_eq s d b
      refine ⟨fun hState hNone => ?_, fun hState hNone => ?_, fun old hState hOld => ?_, fun old hState hOld => ?_⟩
      · rw [hGrant, decide_eq_false hState, hNone]
      · rw [hGrant, decide_eq_true hState, hNone]
      · rw [hGrant, decide_eq_false hState, hOld]
      · rw [hGrant, decide_eq_true hState, hOld]
  · intro opened
    refine ⟨fun hBv hDv => ?_, fun hStuck old => ?_⟩
    · have hClear : s.drawStuck d b = false := Bool.eq_false_iff.2 fun h => by
        rcases (drawStuck_iff s d b).1 h with h | h
        · exact h hBv
        · exact h.1 hDv
      refine ⟨?_, fun old => ?_⟩
      · rw [takeGrant_draws hState hGrant, drawStuck_shutOld, hClear]
        rfl
      · rw [takeGrant_draws hState hGrant, drawStuck_shutOld, hClear]
        rfl
    · rw [takeGrant_draws hState hGrant, drawStuck_shutOld, (drawStuck_iff s d b).2 hStuck]
      rfl

end Sys2Proof.Machine
end

section
/-!
PROOF. Isolation, restoring and release of banks (O25), and REFILL (O27).
-/

namespace Sys2Proof.Machine

variable {s t u : State}

/-- Only an IDLE compressor evaluates its start conditions (R61). -/
theorem evalStart_notIdle (h : s.comp.state ≠ .idle) : s.evalStart = s := if_pos h

theorem bankChecks (kind : Byte) (hKind : kind = 0x31 ∨ kind = 0x32) (b : Four) :
    firstBad (fieldChecks kind.toNat [Four.field b]) = none := by
  rcases hKind with rfl | rfl <;> cases b <;> rfl

/-! ## ISOLATE (R49) -/

theorem isolate_offered {g : Byte} {b : Four} (h : s.Offers 0x31 g [Four.field b] u) :
    exec (.isolate g (Four.field b)) s = .next ((u.take [.isolate b]).sendReply ⟨.ok, 0, .none⟩) :=
  congrArg Host.Outcome.next (takeRequest_ownerOf h rfl (bankChecks 0x31 (.inl rfl) b) rfl)

theorem isolateBank_ready {b : Four} (h : (u.bank b).state = .ready) :
    u.isolateBank b = ((u.modBank b fun k => { k with state := .isolated }).evalStart, [.rewalk b]) := by
  unfold State.isolateBank
  rw [h]

theorem isolateBank_refilling {b : Four} (h : (u.bank b).state = .refilling) :
    u.isolateBank b = (u.modBank b fun k => { k with state := .isolated }, [.lose b, .rewalk b]) := by
  unfold State.isolateBank
  rw [h]

theorem isolateBank_isolated {b : Four} (h : (u.bank b).state = .isolated) : u.isolateBank b = (u, []) := by
  unfold State.isolateBank
  rw [h]

theorem isolateBank_drawing {b d : Four} (h : (u.bank b).state = .drawing d) :
    u.isolateBank b =
      if (u.bank b).isolatePending then (u, [])
      else (u.modBank b fun k => { k with isolatePending := true }, [.switchDemand d, .rewalk b]) := by
  unfold State.isolateBank
  rw [h]

theorem rewalkWaiters_none {b : Four} (h : (s.bank b).waiters = []) : s.rewalkWaiters b = (s, []) := by
  unfold State.rewalkWaiters
  rw [h]

theorem rewalkWaiters_first {b w : Four} {rest : List Four} (h : (s.bank b).waiters = w :: rest) :
    s.rewalkWaiters b = (s.leaveWaitLists w, [.walk w none, .rewalk b]) := by
  unfold State.rewalkWaiters
  rw [h]

/-- A READY bank that nobody waits for isolated, the compressor not IDLE. -/
theorem take_isolate_ready {b : Four} (hReady : (u.bank b).state = .ready) (hWaiters : (u.bank b).waiters = [])
    (hComp : u.comp.state ≠ .idle) : u.take [.isolate b] = u.modBank b fun k => { k with state := .isolated } := by
  have hIsolate : u.doTask (.isolate b) = (u.modBank b fun k => { k with state := .isolated }, [.rewalk b]) :=
    (isolateBank_ready hReady).trans
      (congrArg (·, [Task.rewalk b]) (evalStart_notIdle (s := u.modBank b fun k => { k with state := .isolated }) hComp))
  have hNobody : ((u.modBank b fun k => { k with state := .isolated }).bank b).waiters = [] := by
    rw [bank_modBank, if_pos rfl]
    exact hWaiters
  have hRewalk : (u.modBank b fun k => { k with state := .isolated }).doTask (.rewalk b) =
      (u.modBank b fun k => { k with state := .isolated }, []) := rewalkWaiters_none hNobody
  unfold State.take agendaBound
  rw [runTasks_cons, hIsolate]
  exact (runTasks_done hRewalk).trans (runTasks_nil _ _)

/-! ## RESTORE (R51) -/

theorem restore_offered {g : Byte} {b : Four} (h : s.Offers 0x32 g [Four.field b] u) :
    exec (.restore g (Four.field b)) s = .next ((u.restoreBank b).sendReply ⟨.ok, 0, .none⟩) :=
  congrArg Host.Outcome.next (takeRequest_ownerOf h rfl (bankChecks 0x32 (.inr rfl) b) rfl)

/-- A bank back in service (R51). -/
def State.restored (u : State) (b : Four) : State :=
  u.modBank b fun k => { k with state := .ready, refillFailed := false }

theorem restoreBank_isolated {b : Four} (hState : (u.bank b).state = .isolated) (hComp : u.comp.state ≠ .idle) :
    u.restoreBank b =
      if (u.bank b).low = true ∧ u.refillEntry b = none then (u.restored b).autoDemand b else u.restored b := by
  have hStands : (u.restored b).evalStart = u.restored b := evalStart_notIdle (s := u.restored b) hComp
  have hEntry : (u.restored b).refillEntry b = u.refillEntry b := rfl
  unfold State.restoreBank
  rw [if_pos hState]
  change (if (u.bank b).low = true ∧ ((u.restored b).evalStart).refillEntry b = none then
    ((u.restored b).evalStart).autoDemand b else (u.restored b).evalStart) = _
  simp only [hStands, hEntry]

theorem autoDemand_new {b : Four} (hEntry : u.refillEntry b = none) (hComp : u.comp.state ≠ .idle) :
    u.autoDemand b = u.modComp fun c =>
      { c with
        queue := c.queue ++
          [⟨b, (u.bankCfg b).priority, (u.bankCfg b).refillTarget, .auto, u.link.clock, 0, none⟩] } := by
  unfold State.autoDemand
  rw [hEntry]
  exact evalStart_notIdle (s := u.modComp _) hComp

/-! ## Release (R45) -/

/-- The window closed and the grant ended. -/
def State.shutWindow (s : State) (b d : Four) : State :=
  { s with
    banks := { s.banks with
      recs := s.banks.recs.modify b fun k => { k with window := none },
      grant := if s.banks.grant.get d = some b then s.banks.grant.set d none else s.banks.grant } }

theorem release_drawing {b d : Four} (h : (s.bank b).state = .drawing d) :
    s.release b d =
      (s.bank b).window.elim (s.shutWindow b d, [.freeBank b]) fun w =>
        ((s.shutWindow b d).modFill d fun f =>
          { f with
            usage := setGrams b (s.windowMass w) f.usage,
            currentBank := if f.currentBank = some b then none else f.currentBank },
          mismatchTasks w (s.windowFailures b w) ++ [.freeBank b]) := by
  unfold State.release
  rw [if_pos h]
  cases (s.bank b).window <;> rfl

theorem leaveWaitLists_bank (s : State) (w c : Four) :
    (s.leaveWaitLists w).bank c =
      { s.bank c with waiters := (s.bank c).waiters.filter fun x => decide (x ≠ w) } :=
  quad_get_map _ _ _

theorem free_iff (p : BankState) : p.free = true ↔ p = .ready ∨ p = .refilling := by
  cases p <;> simp [BankState.free]

theorem serveWaiters_first {b w : Four} {rest : List Four} (hWaiters : (s.bank b).waiters = w :: rest)
    (hFree : (s.bank b).state.free = true) :
    s.serveWaiters b =
      if (s.leaveWaitLists w).qualifies w b then (s.leaveWaitLists w, [.grant w b])
      else (s.leaveWaitLists w, [.walk w none, .serve b]) := by
  unfold State.serveWaiters
  rw [if_pos hFree, hWaiters]

theorem serveWaiters_none {b : Four} (hWaiters : (s.bank b).waiters = []) (hFree : (s.bank b).state.free = true) :
    s.serveWaiters b = (s.evalStart, []) := by
  unfold State.serveWaiters
  rw [if_pos hFree, hWaiters]

/-- Settles O25: the requests, then the release and what follows a freed bank. -/
theorem banksAreIsolatedAndRestored : Obligations.BanksAreIsolatedAndRestored := by
  refine ⟨fun s u g b => ⟨fun h => ?_, fun h => ?_⟩, fun s b d => ?_, fun s b => ⟨fun h => if_pos h, fun h => ?_⟩,
    fun s b w rest => ?_, fun s b h => ⟨rewalkWaiters_none h, fun hFree => serveWaiters_none h ((free_iff _).2 hFree)⟩⟩
  · have hRow := isolate_offered h
    refine ⟨fun hReady hWaiters hComp => ?_, fun hState => ?_, isolateBank_refilling, isolateBank_ready,
      fun d hState hPending => ?_, fun d hState hPending => ?_, hRow⟩
    · rw [hRow, take_isolate_ready hReady hWaiters hComp]
    · have hNothing : u.doTask (.isolate b) = (u, []) := isolateBank_isolated hState
      rw [hRow, take_single hNothing]
    · have hNothing : u.doTask (.isolate b) = (u, []) := (isolateBank_drawing hState).trans (if_pos hPending)
      rw [hRow, take_single hNothing]
    · rw [isolateBank_drawing hState, hPending]
      rfl
  · have hRow := restore_offered h
    refine ⟨fun hState => ?_, fun hState hComp => ⟨fun hCalm => ?_, fun hLow hEntry => ?_⟩⟩
    · have hNothing : u.restoreBank b = u := if_neg hState
      rw [hRow, hNothing]
    · have hNoDemand : ¬((u.bank b).low = true ∧ u.refillEntry b = none) := by
        rintro ⟨hLow, hNone⟩
        rcases hCalm with hHigh | hQueued
        · rw [hHigh] at hLow
          cases hLow
        · rw [hNone] at hQueued
          cases hQueued
      rw [hRow, restoreBank_isolated hState hComp, if_neg hNoDemand]
      rfl
    · rw [hRow, restoreBank_isolated hState hComp, if_pos ⟨hLow, hEntry⟩, autoDemand_new (u := u.restored b) hEntry hComp]
      rfl
  · intro shut
    refine ⟨fun w hState hWindow => ?_, fun hState hWindow => ?_, fun hState => if_neg hState⟩
    · intro m
      rw [release_drawing hState, hWindow]
      rfl
    · rw [release_drawing hState, hWindow]
      rfl
  · exact if_neg (by rw [h]; decide)
  · intro t
    refine ⟨fun hWaiters hFree => ⟨fun hFits => ?_, fun hFits => ?_⟩, fun hWaiters => rewalkWaiters_first hWaiters, rfl,
      leaveWaitLists_bank s w, rfl⟩
    · rw [serveWaiters_first hWaiters ((free_iff _).2 hFree)]
      exact if_pos hFits
    · rw [serveWaiters_first hWaiters ((free_iff _).2 hFree)]
      exact if_neg (by rw [hFits]; decide)

/-! ## REFILL (R54, R59) -/

theorem refillChecks (b : Four) {p : Byte} (hp : p.toNat ≤ 3) :
    firstBad (fieldChecks (0x30 : Byte).toNat [Four.field b, p]) = none := by
  have hFirst : fieldAt [Four.field b, p] 0 1 = (Four.field b).toNat := fieldAt_first _ _
  have hSecond : fieldAt [Four.field b, p] 1 1 = p.toNat := fieldAt_second _ _ _
  change firstBad [(1, between 1 4 (fieldAt [Four.field b, p] 0 1)), (2, between 0 3 (fieldAt [Four.field b, p] 1 1))] = none
  rw [hFirst, hSecond]
  refine firstBad_none fun c hc => ?_
  simp only [List.mem_cons, List.not_mem_nil, or_false] at hc
  rcases hc with rfl | rfl
  · exact between_field b
  · exact between_eq_true.2 ⟨Nat.zero_le _, hp⟩

theorem takeRefill_free {b : Four} (h : (u.bank b).state ≠ .isolated) (p : Nat) :
    u.takeRefill b p = (u.queueRefill b p, okAnswer) := if_neg h

/-- Settles O27: refused for an ISOLATED bank, else by whether the bank is queued. -/
theorem refillQueuesABank : Obligations.RefillQueuesABank := by
  intro s u g p b hp h
  have hRow {t : State} {a : Answer} (ho : u.takeRefill b p.toNat = (t, a)) :
      exec (.refill g (Four.field b) p) s = .next (t.sendReply a) :=
    congrArg Host.Outcome.next (takeRequest_ownerOf (f := fun b t => t.takeRefill b p.toNat) h rfl (refillChecks b hp) ho)
  refine ⟨fun hState => hRow (if_pos hState), fun hState hEntry => ?_, fun e hState hEntry => ?_⟩
  · refine (hRow (takeRefill_free hState _)).trans ?_
    unfold State.queueRefill
    rw [hEntry]
    rfl
  · refine (hRow (takeRefill_free hState _)).trans ?_
    unfold State.queueRefill
    rw [hEntry]
    rfl

end Sys2Proof.Machine
end

section
/-!
PROOF. The timers of the Bank Manager: BANK_WAIT_EXPIRY and DRAW_WINDOW_CHECK_EXPIRY (O26).
-/

namespace Sys2Proof.Machine

variable {s t : State} {b d : Four} {w : Window}

/-! ## A bank wait that runs out (R48) -/

theorem bankWaitExpiry_ran (hWaits : s.waitingOn d = some b) (hOut : s.banks.wait.get d = some 0) :
    exec (.bankWaitExpiry d) s = .next ((s.leaveWaitLists d).take [.walk d (some b)]) := by
  change execBankWaitExpiry d s = _
  unfold execBankWaitExpiry
  simp only [hWaits, hOut]

theorem bankWaitExpiry_stale (h : s.waitingOn d = none ∨ s.banks.wait.get d ≠ some 0) :
    exec (.bankWaitExpiry d) s = .next s := by
  change execBankWaitExpiry d s = _
  unfold execBankWaitExpiry
  refine congrArg Host.Outcome.next ?_
  split
  case h_1 hWaits hOut =>
    rcases h with hNobody | hRuns
    · cases hNobody.symm.trans hWaits
    · exact absurd hOut hRuns
  case h_2 => rfl

/-! ## The check of a draw window (R158, R159) -/

/-- The window of bank `b` after a check that leaves it at `n` failures: its timer runs afresh. -/
def State.windowChecked (s : State) (b : Four) (w : Window) (n : Nat) : State :=
  s.modBank b fun k => { k with window := some { w with check := some 10000, failures := n } }

theorem drawWindowCheckExpiry_runs (hWindow : (s.bank b).window = some w) (hCheck : w.check.isSome = true) {n : Nat}
    (hFailures : s.windowFailures b w = n) :
    exec (.drawWindowCheckExpiry b) s = .next ((s.windowChecked b w n).take (mismatchTasks w n)) := by
  subst hFailures
  change execDrawWindowCheckExpiry b s = _
  unfold execDrawWindowCheckExpiry
  rw [hWindow]
  exact congrArg Host.Outcome.next (if_pos hCheck)

theorem windowFailures_skipped (h : s.windowMass w < 500 ∨ (s.chan (.bank b)).state ≠ .good) :
    s.windowFailures b w = w.failures := by
  unfold State.windowFailures
  dsimp only
  split
  case h_1 hGood hPressure => exact if_pos (h.resolve_right fun hBad => hBad hGood)
  case h_2 => rfl

theorem windowFailures_judged {p : Nat} (hMass : 500 ≤ s.windowMass w) (hGood : (s.chan (.bank b)).state = .good)
    (hPressure : (s.chan (.bank b)).pressure = some p) :
    s.windowFailures b w =
      if windowPasses (s.windowMass w) (estimatedMass w.pStart p (s.bankCfg b).massFactor) then 0
      else min 2 (w.failures + 1) := by
  unfold State.windowFailures
  dsimp only
  rw [hGood, hPressure]
  exact if_neg (Nat.not_lt.2 hMass)

/-- A window passes where the metered and the estimated mass differ by no more than the tolerance (R158). -/
theorem windowPasses_iff (metered estimated : Nat) :
    windowPasses metered estimated = true ↔
      metered ≤ estimated + (15 * metered / 100 + 100) ∧ estimated ≤ metered + (15 * metered / 100 + 100) := by
  unfold windowPasses
  rw [decide_eq_true_iff]
  omega

theorem windowPasses_not {metered estimated : Nat}
    (h : estimated + (15 * metered / 100 + 100) < metered ∨ metered + (15 * metered / 100 + 100) < estimated) :
    ¬ windowPasses metered estimated = true := by
  rw [windowPasses_iff]
  omega

theorem mismatchTasks_few {n : Nat} (h : n ≠ 2) : mismatchTasks w n = [] := if_neg fun both => h both.1

theorem take_few {n : Nat} (h : n ≠ 2) : t.take (mismatchTasks w n) = t := by rw [mismatchTasks_few h, take_nil]

theorem mismatchTasks_second (h : w.failures ≠ 2) : mismatchTasks w 2 = [.mismatch w.disp] := if_pos ⟨rfl, h⟩

/-! ## METER_MISMATCH (R159) -/

theorem mismatch_of_own {n : Nat} (hOwn : s.log.own.get d = some n) :
    s.doTask (.mismatch d) =
      (State.checkpoint { s with log := { s.log with
        ring := s.log.ring.map fun x => if x.number = n then { x with disputed := true } else x } } d,
       [.endCause d .meterMismatch]) :=
  congrArg (fun g : TransLog => (State.checkpoint { s with log := g } d, [Task.endCause d .meterMismatch]))
    (modOwn_of_own hOwn fun e => { e with disputed := true })

/-- A change of the own entry changes nothing where there is none. -/
theorem modOwn_none {g : TransLog} (h : g.ownEntry d = none) (f : LogEntry → LogEntry) : g.modOwn d f = g := by
  unfold TransLog.ownEntry at h
  cases hOwn : g.own.get d with
  | some n =>
    rw [hOwn] at h
    rw [modOwn_of_own hOwn]
    have hOther : ∀ e ∈ g.ring, (if e.number = n then f e else e) = e := by
      intro e he
      have hFind : ∀ x ∈ g.ring, ¬ (x.number == n) = true := List.find?_eq_none.1 h
      exact if_neg fun hn => hFind e he (beq_iff_eq.2 hn)
    unfold changeEntry
    rw [List.map_congr_left hOther, List.map_id']
  | none =>
    rw [hOwn] at h
    have hCreation : g.creationOf d = none := Option.map_eq_none_iff.1 h
    unfold TransLog.modOwn
    rw [hOwn]
    dsimp only
    rw [hCreation]

theorem mismatch_none (h : s.log.ownEntry d = none) : s.doTask (.mismatch d) = (s, [.endCause d .meterMismatch]) := by
  have hDisputed : s.log.modOwn d (fun e => { e with disputed := true }) = s.log := modOwn_none h _
  exact congrArg (·, [Task.endCause d .meterMismatch])
    ((congrArg (fun g : TransLog => State.checkpoint { s with log := g } d) hDisputed).trans (checkpoint_none h))

/-- Settles O26: a bank wait that has run out walks again, and the check of a draw window skips, clears or raises its
failure count and hands METER_MISMATCH at the second failure. -/
theorem bankTimersExpire : Obligations.BankTimersExpire := by
  refine ⟨fun s d b => bankWaitExpiry_ran, fun s d => bankWaitExpiry_stale, ?_, fun w n => rfl, ?_⟩
  · intro s b w hWindow hCheck
    refine ⟨fun hSkip => drawWindowCheckExpiry_runs hWindow hCheck (windowFailures_skipped hSkip), ?_⟩
    intro p hMass hGood hPressure
    have hJudged := windowFailures_judged hMass hGood hPressure
    refine ⟨fun hPass => ?_, fun hFail hCount => ?_, fun hFail hCount => ?_⟩
    · have hFailures : s.windowFailures b w = 0 := hJudged.trans (if_pos ((windowPasses_iff _ _).2 hPass))
      exact (drawWindowCheckExpiry_runs hWindow hCheck hFailures).trans
        (congrArg Host.Outcome.next (take_few (by decide)))
    · have hFailures : s.windowFailures b w = 1 :=
        (hJudged.trans (if_neg (windowPasses_not hFail))).trans (by rw [hCount]; rfl)
      exact (drawWindowCheckExpiry_runs hWindow hCheck hFailures).trans
        (congrArg Host.Outcome.next (take_few (by decide)))
    · have hFailures : s.windowFailures b w = 2 :=
        (hJudged.trans (if_neg (windowPasses_not hFail))).trans (by rw [hCount]; rfl)
      rw [drawWindowCheckExpiry_runs hWindow hCheck hFailures, mismatchTasks_second (by rw [hCount]; decide)]
      rfl
  · exact fun s d => ⟨fun n e hOwn _ => mismatch_of_own hOwn, mismatch_none⟩

end Sys2Proof.Machine
end

section
/-!
PROOF. The compressor taken out of service and returned to it: COMPRESSOR OFF, COMPRESSOR ON, the shutdown order and
RESUME (O28).
-/

namespace Sys2Proof.Machine

variable {s u : State}

/-- Two changes of the compressor that agree on the present one. -/
theorem modComp_congr {f g : Compressor → Compressor} (h : f s.comp = g s.comp) : s.modComp f = s.modComp g :=
  congrArg (fun c : Compressor => { s with comp := c }) h

/-- The states of a compressor that neither a claim nor a fault holds (R73). -/
def CompState.resting (c : CompState) : Prop := c = .idle ∨ c = .rest

theorem CompState.working_iff (c : CompState) : c.working = true ↔ c = .starting ∨ c = .running ∨ c = .switching := by
  cases c <;> simp [CompState.working]

/-! ## COMPRESSOR OFF (R73) -/

theorem compressorOff_offered {g : Byte} {t : State} (h : s.Offers 0x34 g [] u) (ht : u.compressorOff = t) :
    exec (.compressorOff g) s = .next (t.sendReply ⟨.ok, 0, .none⟩) :=
  congrArg Host.Outcome.next
    (takeRequest_answering (f := fun t => (t.compressorOff, okAnswer)) h rfl rfl (congrArg (·, okAnswer) ht))

theorem compressorOff_resting (h : u.comp.state.resting) : u.compressorOff = u.disableNow .station := by
  unfold State.compressorOff
  rcases h with h | h <;> simp only [h]

theorem compressorOff_working (h : u.comp.state = .starting ∨ u.comp.state = .running ∨ u.comp.state = .switching) :
    u.compressorOff = (u.modComp fun c => { c with disablePending := some .station }).enterUnloading := by
  unfold State.compressorOff
  rcases h with h | h | h <;> simp only [h]

theorem compressorOff_unloading (h : u.comp.state = .unloading) :
    u.compressorOff = u.modComp fun c => { c with disablePending := some .station } := by
  unfold State.compressorOff
  simp only [h]

theorem compressorOff_disabled (h : u.comp.state = .disabled) :
    u.compressorOff = u.modComp fun c => { c with disableCause := some .station } := by
  unfold State.compressorOff
  simp only [h]

theorem compressorOff_fault (h : u.comp.state = .fault) : u.compressorOff = u := by
  unfold State.compressorOff
  simp only [h]

/-! ## The return to service (R73, R74) -/

/-- Before 30 s have passed since the run output went off, a compressor returns into REST. -/
theorem returnToService_early (h : u.comp.sinceOff < 30000) :
    u.returnToService =
      (u.modComp fun c =>
        { c with disableCause := none, state := .rest, timer := some (30000 - c.sinceOff) }).compareFeedback := by
  unfold State.returnToService
  dsimp only
  rw [modComp_congr (s := u)
    (g := fun c => { c with disableCause := none, state := .rest, timer := some (30000 - c.sinceOff) })
    (by rw [if_pos h, if_pos h])]
  exact evalStart_notIdle (by intro hIdle; cases hIdle)

/-- After them it returns into IDLE, and the start conditions are evaluated. -/
theorem returnToService_late (h : 30000 ≤ u.comp.sinceOff) :
    u.returnToService =
      (u.modComp fun c => { c with disableCause := none, state := .idle, timer := none }).compareFeedback.evalStart := by
  unfold State.returnToService
  dsimp only
  rw [modComp_congr (s := u) (g := fun c => { c with disableCause := none, state := .idle, timer := none })
    (by rw [if_neg (Nat.not_lt.2 h), if_neg (Nat.not_lt.2 h)])]

/-! ## COMPRESSOR ON (R73) -/

theorem compressorOn_offered {g : Byte} {t : State} {a : Answer} (h : s.Offers 0x33 g [] u)
    (ht : u.compressorOn = (t, a)) : exec (.compressorOn g) s = .next (t.sendReply a) :=
  congrArg Host.Outcome.next (takeRequest_answering h rfl rfl ht)

theorem compressorOn_shutdown (h : u.sup.station = .shutdown) : u.compressorOn = (u, notNow .state) := if_pos h

theorem compressorOn_returned (hStation : u.sup.station ≠ .shutdown)
    (h : u.comp.state = .disabled ∨ u.comp.state = .fault) : u.compressorOn = (u.returnToService, okAnswer) := by
  unfold State.compressorOn
  rw [if_neg hStation]
  rcases h with h | h <;> simp only [h]

theorem compressorOn_inService (hStation : u.sup.station ≠ .shutdown) (hDisabled : u.comp.state ≠ .disabled)
    (hFault : u.comp.state ≠ .fault) :
    u.compressorOn = (u.modComp fun c => { c with disablePending := none }, okAnswer) := by
  unfold State.compressorOn
  rw [if_neg hStation]
  split
  case h_1 h => exact absurd h hDisabled
  case h_2 h => exact absurd h hFault
  case h_3 => rfl

/-! ## The shutdown order and RESUME (R74) -/

/-- What a shutdown order leaves pending: a station's COMPRESSOR OFF stays so. -/
def Compressor.pendingAtShutdown (c : Compressor) : DisableCause :=
  if c.disablePending = some .station then .station else .shutdown

theorem compShutdown_resting (h : s.comp.state.resting) : s.compShutdown = s.disableNow .shutdown := by
  unfold State.compShutdown
  rcases h with h | h <;> simp only [h]

theorem compShutdown_working (h : s.comp.state = .starting ∨ s.comp.state = .running ∨ s.comp.state = .switching) :
    s.compShutdown = (s.modComp fun c => { c with disablePending := some s.comp.pendingAtShutdown }).enterUnloading := by
  unfold State.compShutdown
  rcases h with h | h | h <;> simp only [h] <;> rfl

theorem compShutdown_unloading (h : s.comp.state = .unloading) :
    s.compShutdown = s.modComp fun c => { c with disablePending := some s.comp.pendingAtShutdown } := by
  unfold State.compShutdown
  simp only [h]
  rfl

theorem compShutdown_out (h : s.comp.state = .disabled ∨ s.comp.state = .fault) : s.compShutdown = s := by
  unfold State.compShutdown
  rcases h with h | h <;> simp only [h]

theorem compResume_disabled (h : s.comp.state = .disabled) :
    s.compResume = if s.comp.disableCause = some .shutdown then s.returnToService else s := by
  unfold State.compResume
  simp only [h]

theorem compResume_unloading (h : s.comp.state = .unloading) :
    s.compResume = s.modComp fun c =>
      { c with disablePending := if c.disablePending = some .shutdown then none else c.disablePending } := by
  unfold State.compResume
  simp only [h]

theorem compResume_pending (h : s.comp.state = .unloading) (hPending : s.comp.disablePending = some .shutdown) :
    s.compResume = s.modComp fun c => { c with disablePending := none } :=
  (compResume_unloading h).trans (modComp_congr (by rw [if_pos hPending]))

theorem compResume_notPending (h : s.comp.state = .unloading) (hPending : s.comp.disablePending ≠ some .shutdown) :
    s.compResume = s :=
  (compResume_unloading h).trans (modComp_congr (g := id) (by dsimp only [id]; rw [if_neg hPending]))

theorem compResume_other (hDisabled : s.comp.state ≠ .disabled) (hUnloading : s.comp.state ≠ .unloading) :
    s.compResume = s := by
  unfold State.compResume
  split
  case h_1 h => exact absurd h hDisabled
  case h_2 h => exact absurd h hUnloading
  case h_3 => rfl

/-- Settles O28: by the state that COMPRESSOR OFF, COMPRESSOR ON, the shutdown order or RESUME finds the compressor in. -/
theorem theCompressorIsTakenOutOfServiceAndReturned : Obligations.TheCompressorIsTakenOutOfServiceAndReturned := by
  refine ⟨fun s u g => ⟨fun h => ⟨?_, ?_, ?_, ?_, ?_⟩, fun h => ⟨?_, ?_, ?_, ?_⟩⟩, fun s c => rfl, fun s => ?_⟩
  · exact fun hState => compressorOff_offered h (compressorOff_resting hState)
  · exact fun hState => compressorOff_offered h (compressorOff_working hState)
  · exact fun hState => compressorOff_offered h (compressorOff_unloading hState)
  · exact fun hState => compressorOff_offered h (compressorOff_disabled hState)
  · exact fun hState => compressorOff_offered h (compressorOff_fault hState)
  · exact fun hStation => compressorOn_offered h (compressorOn_shutdown hStation)
  · exact fun hStation hDisabled hFault => compressorOn_offered h (compressorOn_inService hStation hDisabled hFault)
  · intro hStation hState hEarly
    rw [compressorOn_offered h (compressorOn_returned hStation hState), returnToService_early hEarly]
    rfl
  · intro hStation hState hLate
    rw [compressorOn_offered h (compressorOn_returned hStation hState), returnToService_late hLate]
    rfl
  · exact ⟨compShutdown_resting, compShutdown_working, compShutdown_unloading, compShutdown_out,
      fun h hCause => (compResume_disabled h).trans (if_pos hCause),
      fun h hCause => (compResume_disabled h).trans (if_neg hCause),
      compResume_pending, compResume_notPending, compResume_other⟩

end Sys2Proof.Machine
end

section
/-!
PROOF. The examination of the refill queue and the start conditions (O29).
-/

namespace Sys2Proof.Machine

variable {s t : State}

/-! ## The examination (R60) -/

/-- The examination is of the entries at or above their targets when it begins: what it does changes neither banks nor
channels. -/
theorem examine_eq (s : State) : s.examine = (s.comp.queue.filter s.atTarget).foldl State.finishEntry s := by
  unfold State.examine
  rw [List.foldl_filter]

theorem examine_none (h : ∀ e ∈ s.comp.queue, s.atTarget e = false) : s.examine = s := by
  rw [examine_eq, List.filter_eq_nil_iff.2 fun e he => by rw [h e he]; decide]
  rfl

/-- An entry left in the queue after refills are finished is of none of their banks. -/
theorem mem_finishEntries {x : RefillEntry} (l : List RefillEntry) :
    ∀ t : State, x ∈ (l.foldl State.finishEntry t).comp.queue → x ∈ t.comp.queue ∧ ∀ e ∈ l, x.bank ≠ e.bank := by
  induction l with
  | nil => exact fun t hx => ⟨hx, fun e he => absurd he List.not_mem_nil⟩
  | cons e rest ih =>
    intro t hx
    obtain ⟨hQueue, hRest⟩ := ih (t.finishEntry e) hx
    obtain ⟨hOld, hBank⟩ := List.mem_filter.1 hQueue
    refine ⟨hOld, fun y hy => ?_⟩
    rcases List.mem_cons.1 hy with rfl | hy
    · exact of_decide_eq_true hBank
    · exact hRest y hy

/-- What refills finished leave of the state: all but the queue, the totals and the notices. -/
theorem finishEntries_frame (l : List RefillEntry) :
    ∀ t : State, ∃ q n k, l.foldl State.finishEntry t =
      { t with comp := { t.comp with queue := q, totals := n }, link := k } := by
  induction l with
  | nil => exact fun t => ⟨_, _, _, rfl⟩
  | cons e rest ih =>
    intro t
    obtain ⟨q, n, k, h⟩ := ih (t.finishEntry e)
    exact ⟨q, n, k, h⟩

theorem examine_frame (s : State) :
    ∃ q n k, s.examine = { s with comp := { s.comp with queue := q, totals := n }, link := k } := by
  rw [examine_eq]
  exact finishEntries_frame _ s

theorem atTarget_examine (s : State) (e : RefillEntry) : s.examine.atTarget e = s.atTarget e := by
  obtain ⟨q, n, k, h⟩ := examine_frame s
  rw [h]
  rfl

/-- No entry that the examination leaves is at its target. -/
theorem examine_notAtTarget {e : RefillEntry} (he : e ∈ s.examine.comp.queue) : s.examine.atTarget e = false := by
  rw [atTarget_examine]
  rw [examine_eq] at he
  obtain ⟨hQueue, hBanks⟩ := mem_finishEntries _ s he
  exact Bool.eq_false_iff.2 fun hAt => hBanks e (List.mem_filter.2 ⟨hQueue, hAt⟩) rfl

theorem examine_examine (s : State) : s.examine.examine = s.examine := examine_none fun _ he => examine_notAtTarget he

/-! ## The start conditions (R61, R62) -/

theorem deferralTimerExpiry_runs (h : s.comp.deferral.isSome = true) :
    exec .deferralTimerExpiry s = .next (s.modComp fun c => { c with deferral := none }).evalStart :=
  congrArg Host.Outcome.next (if_pos h)

theorem restTimerExpiry_runs (hRest : s.comp.state = .rest) (hTimer : s.comp.timer.isSome = true) :
    exec .restTimerExpiry s = .next (s.modComp fun c => { c with state := .idle, timer := none }).evalStart :=
  congrArg Host.Outcome.next (if_pos ⟨hRest, hTimer⟩)

/-- The conditions of R61 but the ring's. -/
def State.mayStart (s : State) : Prop :=
  s.sup.station = .ready ∧ s.sweepActive = false ∧ s.comp.supplyLow = false ∧ (s.chosen []).isSome = true

/-- The start conditions in IDLE, no entry being at its target. -/
theorem evalStart_idle (hIdle : s.comp.state = .idle) (hQueue : ∀ e ∈ s.comp.queue, s.atTarget e = false) :
    (s.mayStart → s.ringAllows = true → s.evalStart = s.enterStarting) ∧
    (s.mayStart → s.ringAllows = false →
      s.evalStart = s.modComp fun c => { c with deferred := true, deferral := some s.deferralTime }) ∧
    (¬ s.mayStart → s.evalStart = s.modComp fun c => { c with deferred := false, deferral := none }) := by
  unfold State.evalStart
  rw [if_neg (not_not_intro hIdle)]
  dsimp only
  rw [examine_none hQueue]
  refine ⟨fun hReady hRing => (if_pos hReady).trans (if_pos hRing), fun hReady hRing => (if_pos hReady).trans ?_,
    fun hNot => if_neg hNot⟩
  exact if_neg (Bool.eq_false_iff.1 hRing)

/-- Settles O29: the two timers evaluate the start conditions, and by these the compressor starts, defers its start or
clears START_DEFERRED. -/
theorem startConditionsDecideAStart : Obligations.StartConditionsDecideAStart :=
  ⟨fun _ => deferralTimerExpiry_runs, fun _ => restTimerExpiry_runs, fun _ => evalStart_idle, fun _ => evalStart_notIdle⟩

end Sys2Proof.Machine
end

section
/-!
PROOF. The choice of a bank, its claim and the beginning of a delivery (O30).
-/

namespace Sys2Proof.Machine

variable {s t : State}

/-! ## Eligible entries and the best of them (R60) -/

theorem eligible_iff (s : State) (b : Four) :
    s.eligible b = true ↔ (∀ d, (s.bank b).state ≠ .drawing d) ∧ (s.bank b).state ≠ .isolated := by
  unfold State.eligible
  cases (s.bank b).state <;> simp

theorem atTarget_iff (s : State) (e : RefillEntry) :
    s.atTarget e = true ↔
      (∀ d, (s.bank e.bank).state ≠ .drawing d) ∧ (s.bank e.bank).state ≠ .isolated ∧
        ∃ p, s.pBank e.bank = some p ∧ e.target ≤ p := by
  unfold State.atTarget
  rw [Bool.and_eq_true, eligible_iff, and_assoc]
  cases s.pBank e.bank <;> simp

theorem bestEntry_mem {l : List RefillEntry} : ∀ {e : RefillEntry}, bestEntry l = some e → e ∈ l := by
  induction l with
  | nil => exact fun h => by cases h
  | cons x rest ih =>
    intro e h
    unfold bestEntry at h
    split at h
    · exact List.mem_cons.2 (.inl (Option.some.inj h).symm)
    · next f hf =>
      split at h
      · exact List.mem_cons.2 (.inr (ih (hf.trans h)))
      · exact List.mem_cons.2 (.inl (Option.some.inj h).symm)

/-- An entry that none after it exceeds is the best of those from it on. -/
theorem bestEntry_head {e : RefillEntry} {rest : List RefillEntry} (h : ∀ x ∈ rest, x.priority ≤ e.priority) :
    bestEntry (e :: rest) = some e := by
  unfold bestEntry
  split
  · rfl
  · next f hf => exact if_neg (Nat.not_lt.2 (h f (bestEntry_mem hf)))

theorem bestEntry_first {e : RefillEntry} {post : List RefillEntry} (hPost : ∀ x ∈ post, x.priority ≤ e.priority)
    (pre : List RefillEntry) (hPre : ∀ x ∈ pre, x.priority < e.priority) : bestEntry (pre ++ e :: post) = some e := by
  induction pre with
  | nil => exact bestEntry_head hPost
  | cons x rest ih =>
    rw [List.cons_append]
    unfold bestEntry
    rw [ih fun y hy => hPre y (List.mem_cons_of_mem _ hy)]
    exact if_pos (hPre x List.mem_cons_self)

/-- Whether the choice may take an entry, the banks `left` left out (R60). -/
def State.mayTake (s : State) (left : List Four) (e : RefillEntry) : Bool :=
  s.eligible e.bank && (s.pBank e.bank).isSome && !left.contains e.bank

theorem mayTake_iff (s : State) (left : List Four) (e : RefillEntry) :
    s.mayTake left e = true ↔
      (∀ d, (s.bank e.bank).state ≠ .drawing d) ∧ (s.bank e.bank).state ≠ .isolated ∧
        (s.pBank e.bank).isSome = true ∧ e.bank ∉ left := by
  unfold State.mayTake
  rw [Bool.and_eq_true, Bool.and_eq_true, eligible_iff, Bool.not_eq_true', List.contains_eq_mem, decide_eq_false_iff_not,
    and_assoc, and_assoc]

theorem chosen_first {left : List Four} {pre post : List RefillEntry} {e : RefillEntry}
    (hQueue : s.comp.queue = pre ++ e :: post) (he : s.mayTake left e = true)
    (hPre : ∀ x ∈ pre, s.mayTake left x = true → x.priority < e.priority)
    (hPost : ∀ x ∈ post, s.mayTake left x = true → x.priority ≤ e.priority) : s.chosen left = some e := by
  change bestEntry (s.comp.queue.filter (s.mayTake left)) = some e
  rw [hQueue, List.filter_append, List.filter_cons_of_pos he]
  refine bestEntry_first (fun x hx => ?_) _ fun x hx => ?_
  · obtain ⟨hMem, hMay⟩ := List.mem_filter.1 hx
    exact hPost x hMem hMay
  · obtain ⟨hMem, hMay⟩ := List.mem_filter.1 hx
    exact hPre x hMem hMay

theorem chosen_none {left : List Four} (h : ∀ x ∈ s.comp.queue, ¬ s.mayTake left x = true) : s.chosen left = none := by
  change bestEntry (s.comp.queue.filter (s.mayTake left)) = none
  rw [List.filter_eq_nil_iff.2 h]
  rfl

/-! ## The choice and its claim (R60, R63, R64, R68) -/

/-- The states in which a choice of this occasion is taken. -/
def State.takesChoice (s : State) (a : ChoiceAt) : Prop :=
  (a = .spinUp ∧ s.comp.state = .starting) ∨
    (a = .switching ∧ (s.comp.state = .running ∨ s.comp.state = .switching) ∧ s.comp.delivery = none)

theorem choosing_of_takesChoice {a : ChoiceAt} (h : s.takesChoice a) : s.comp.choosing a = true := by
  rcases h with ⟨rfl, hState⟩ | ⟨rfl, hState, hDelivery⟩
  · exact decide_eq_true hState
  · unfold Compressor.choosing
    rw [hDelivery]
    rcases hState with h | h <;> rw [h] <;> rfl

theorem takesChoice_examine {a : ChoiceAt} (h : s.takesChoice a) : s.examine.takesChoice a := by
  obtain ⟨q, n, k, hFrame⟩ := examine_frame s
  rw [hFrame]
  exact h

/-- The claim of a chosen bank granted: it is REFILLING and the delivery bank, its CV opened. -/
def State.claimed (s : State) (b : Four) : State :=
  ((s.modBank b fun k => { k with state := .refilling }).command (.cv b) .opened).modComp fun c =>
    { c with delivery := some b }

theorem choose_examine {a : ChoiceAt} (h : s.takesChoice a) (left : List Four) :
    s.choose a left = s.examine.choose a left := by
  unfold State.choose
  rw [if_pos (choosing_of_takesChoice h), if_pos (choosing_of_takesChoice (takesChoice_examine h)), examine_examine]

section

variable {a : ChoiceAt} {left : List Four} {e : RefillEntry}

theorem choose_none (h : s.takesChoice a) (hQueue : ∀ e ∈ s.comp.queue, s.atTarget e = false)
    (hNone : s.chosen left = none) : s.choose a left = (s.enterUnloading, []) := by
  unfold State.choose
  rw [if_pos (choosing_of_takesChoice h)]
  dsimp only
  rw [examine_none hQueue]
  simp only [hNone]

/-- A choice that finds an entry, by what its claim and its CV answer. -/
theorem choose_some (h : s.takesChoice a) (hQueue : ∀ e ∈ s.comp.queue, s.atTarget e = false)
    (he : s.chosen left = some e) :
    s.choose a left =
      if (s.bank e.bank).state ≠ .ready then (s, [.choose a (e.bank :: left)])
      else if (s.valve (.cv e.bank)).state ≠ .ok then (s, [.isolate e.bank, .choose a (e.bank :: left)])
      else if a = .spinUp then ((s.claimed e.bank).beginSpell e.bank, [])
      else ((s.claimed e.bank).modComp fun c => { c with state := .switching, timer := some 2000 }, []) := by
  unfold State.choose
  rw [if_pos (choosing_of_takesChoice h)]
  dsimp only
  rw [examine_none hQueue]
  simp only [he, State.answersFaulted, decide_eq_true_eq]
  cases a
  · rw [if_pos rfl]
    rfl
  · rw [if_neg (by decide : ¬ ChoiceAt.switching = .spinUp)]
    rfl

theorem choose_spinUp (h : s.comp.state = .starting) (hQueue : ∀ e ∈ s.comp.queue, s.atTarget e = false)
    (he : s.chosen left = some e) (hReady : (s.bank e.bank).state = .ready) (hOk : (s.valve (.cv e.bank)).state = .ok) :
    s.choose .spinUp left = ((s.claimed e.bank).beginSpell e.bank, []) := by
  rw [choose_some (.inl ⟨rfl, h⟩) hQueue he, if_neg (not_not_intro hReady), if_neg (not_not_intro hOk), if_pos rfl]

theorem choose_switching (h : s.takesChoice .switching) (hQueue : ∀ e ∈ s.comp.queue, s.atTarget e = false)
    (he : s.chosen left = some e) (hReady : (s.bank e.bank).state = .ready) (hOk : (s.valve (.cv e.bank)).state = .ok) :
    s.choose .switching left =
      ((s.claimed e.bank).modComp fun c => { c with state := .switching, timer := some 2000 }, []) := by
  rw [choose_some h hQueue he, if_neg (not_not_intro hReady), if_neg (not_not_intro hOk),
    if_neg (by decide : ¬ ChoiceAt.switching = .spinUp)]

end

theorem claimed_valve (s : State) (b : Four) (v : Valve) :
    (s.claimed b).valve v = if v = .cv b then ((s.valve v).command .opened).1 else s.valve v :=
  valve_command (s.modBank b fun k => { k with state := .refilling }) (.cv b) v .opened

theorem claimed_bank (s : State) (b c : Four) :
    (s.claimed b).bank c = if c = b then { s.bank c with state := .refilling } else s.bank c :=
  bank_modBank s b c fun k => { k with state := .refilling }

/-- A delivery begun by the choice after the spin-up (R64). -/
theorem spellBegun_spec (s : State) (b : Four) (hOk : (s.valve (.cv b)).state = .ok) :
    ((s.claimed b).beginSpell b).comp.state = .running ∧ ((s.claimed b).beginSpell b).comp.delivery = some b ∧
      ((s.claimed b).beginSpell b).comp.timer = some 120000 ∧
      ((s.claimed b).beginSpell b).comp.spell = some ⟨s.pBank b⟩ ∧
      (((s.claimed b).beginSpell b).bank b).state = .refilling ∧
      (((s.claimed b).beginSpell b).valve (.cv b)).commanded = .opened ∧
      (∀ x ∈ ((s.claimed b).beginSpell b).comp.queue, x.bank = b → x.rise = s.pBank b) ∧
      ((s.claimed b).beginSpell b).link = s.link ∧ ((s.claimed b).beginSpell b).disps = s.disps ∧
      ((s.claimed b).beginSpell b).log = s.log := by
  refine ⟨rfl, rfl, rfl, rfl, ?_, ?_, fun x hx hBank => ?_, rfl, rfl, rfl⟩
  · exact congrArg BankRec.state ((claimed_bank s b b).trans (if_pos rfl))
  · exact (congrArg ValveRec.commanded ((claimed_valve s b (.cv b)).trans (if_pos rfl))).trans (command_commanded hOk .opened)
  · obtain ⟨y, -, rfl⟩ := List.mem_map.1 hx
    by_cases hy : y.bank = b
    · rw [if_pos hy]
      rfl
    · rw [if_neg hy] at hBank
      exact absurd hBank hy

/-! ## The timers of the spin-up and of a switch (R63, R64, R68) -/

theorem spinUpExpiry_runs (hState : s.comp.state = .starting) (hTimer : s.comp.timer.isSome = true) :
    exec .spinUpExpiry s = .next ((s.modComp fun c => { c with timer := none }).take [.choose .spinUp []]) :=
  congrArg Host.Outcome.next (if_pos ⟨hState, hTimer⟩)

theorem switchTimerExpiry_runs {b : Four} (hState : s.comp.state = .switching) (hDelivery : s.comp.delivery = some b)
    (hTimer : s.comp.timer = some 0) : exec .switchTimerExpiry s = .next (s.beginSpell b) := by
  change execSwitchTimerExpiry s = _
  unfold execSwitchTimerExpiry
  simp only [hState, hDelivery, hTimer]

theorem switchTimerExpiry_stale (h : s.comp.state ≠ .switching ∨ s.comp.timer ≠ some 0) :
    exec .switchTimerExpiry s = .next s := by
  change execSwitchTimerExpiry s = _
  unfold execSwitchTimerExpiry
  refine congrArg Host.Outcome.next ?_
  split
  case h_1 hState hDelivery hTimer =>
    rcases h with hNot | hNot
    · exact absurd hState hNot
    · exact absurd hTimer hNot
  case h_2 => rfl

/-- Settles O30: the examination and the choice by `examine_eq`, `chosen_first` and `choose_some`, and the two expiries
that lead to them. -/
theorem deliveryBegins : Obligations.DeliveryBegins := by
  refine ⟨atTarget_iff, fun s => ⟨examine_eq s, fun e => examine_notAtTarget, fun a left h => choose_examine h left⟩,
    fun s => spinUpExpiry_runs, fun s hState hTimer hQueue => ⟨?_, ?_⟩, fun s => switchTimerExpiry_stale,
    fun s b => switchTimerExpiry_runs, fun s left => ⟨?_, ?_⟩, fun s a left h hQueue => ⟨choose_none h hQueue, ?_⟩⟩
  · intro e he hReady hOk
    have hTask := choose_spinUp (s := s.modComp fun c => { c with timer := none }) hState hQueue he hReady hOk
    refine ⟨_, (spinUpExpiry_runs hState hTimer).trans (congrArg Host.Outcome.next (take_single hTask)), ?_⟩
    exact spellBegun_spec (s.modComp fun c => { c with timer := none }) e.bank hOk
  · intro hNone
    have hTask := choose_none (s := s.modComp fun c => { c with timer := none }) (.inl ⟨rfl, hState⟩) hQueue hNone
    exact (spinUpExpiry_runs hState hTimer).trans (congrArg Host.Outcome.next (take_single hTask))
  · intro pre e post hSplit he hPre hPost
    exact chosen_first hSplit ((mayTake_iff s left e).2 he) (fun x hx hMay => hPre x hx ((mayTake_iff s left x).1 hMay))
      fun x hx hMay => hPost x hx ((mayTake_iff s left x).1 hMay)
  · exact fun may => chosen_none fun x hx hMay => may x hx ((mayTake_iff s left x).1 hMay)
  · intro e he
    refine ⟨fun hRefused => ?_, fun hReady hFaulted => ?_, fun hReady hOk hSwitching => ?_⟩
    · rw [choose_some h hQueue he, if_pos hRefused]
    · rw [choose_some h hQueue he, if_neg (not_not_intro hReady), if_pos hFaulted]
    · subst hSwitching
      exact ⟨_, choose_switching h hQueue he hReady hOk, rfl, claimed_valve s e.bank, claimed_bank s e.bank, rfl⟩

end Sys2Proof.Machine
end

section
/-!
PROOF. The check of a delivery, its end, and the run-down (O31).
-/

namespace Sys2Proof.Machine

variable {s t : State} {b : Four}

/-! ## The progress of a delivery (R66) -/

theorem progressTimerExpiry_runs (hState : s.comp.state = .running) (hDelivery : s.comp.delivery = some b)
    (hTimer : s.comp.timer.isSome = true) :
    exec .progressTimerExpiry s =
      .next (if s.hasRisen b then
        s.modComp fun c => { c.modEntry b fun e => { e with rise := s.pBank b } with timer := some 120000 }
      else settled (s.stall b 1)) := by
  obtain ⟨n, hn⟩ := Option.isSome_iff_exists.1 hTimer
  change execProgressTimerExpiry s = _
  unfold execProgressTimerExpiry
  simp only [hState, hDelivery, hn]

theorem hasRisen_eq {p r : Nat} (hp : s.pBank b = some p) (hr : (s.refillEntry b).bind (·.rise) = some r) :
    s.hasRisen b = decide (r + 500 ≤ p) := by
  unfold State.hasRisen
  simp only [hp, hr]

/-! ## The run-down (R69) -/

theorem runDownExpiry_runs {f : Compressor → Compressor} (hState : s.comp.state = .unloading)
    (hTimer : s.comp.timer.isSome = true)
    (hf : (s.comp.disablePending.elim { s.comp with state := .rest, timer := some 30000, sinceOff := 0 } fun p =>
      { s.comp with
        state := .disabled, disableCause := some p, disablePending := none, timer := none, sinceOff := 0 }) = f s.comp) :
    exec .runDownExpiry s = .next (s.modComp f).compareFeedback := by
  change execRunDownExpiry s = _
  unfold execRunDownExpiry
  rw [if_pos ⟨hState, hTimer⟩]
  refine congrArg Host.Outcome.next (congrArg State.compareFeedback (modComp_congr (Eq.trans ?_ hf)))
  cases hPending : s.comp.disablePending <;> simp only [hPending, Option.elim]

/-! ## A loss (R67) -/

theorem loseBank_delivering (h : (s.comp.state = .running ∨ s.comp.state = .switching) ∧ s.comp.delivery = some b) :
    s.loseBank b = (s.endDelivery b, [.choose .switching []]) := if_pos ((deliversInto_iff _ _).2 h)

theorem loseBank_other (h : ¬((s.comp.state = .running ∨ s.comp.state = .switching) ∧ s.comp.delivery = some b)) :
    s.loseBank b = (s, []) := if_neg fun hDelivers => h ((deliversInto_iff _ _).1 hDelivers)

/-! ## The end of a delivery (R50, R65 to R67, R75) -/

theorem closeSpell_none (h : s.comp.spell = none) : s.closeSpell b = s := by
  unfold State.closeSpell
  simp only [h]

theorem closeSpell_some {sp : Spell} (h : s.comp.spell = some sp) :
    s.closeSpell b =
      s.modComp fun c =>
        { (c.modEntry b fun e =>
            { e with
              delivered := e.delivered + spellMass sp.start (s.chan (.bank b)).pressure (s.bankCfg b).massFactor }).modTotals
            b fun t =>
              { t with
                delivered := min top32
                  (t.delivered + spellMass sp.start (s.chan (.bank b)).pressure (s.bankCfg b).massFactor) } with
          spell := none } := by
  unfold State.closeSpell
  simp only [h]

/-- An end of delivery, but for what the close of the spell does to the compressor. -/
theorem endDelivery_eq (s : State) (b : Four) :
    s.endDelivery b =
      { s with
        comp := { ((s.command (.cv b) .closed).closeSpell b).comp.modEntry b fun e => { e with rise := none } with
          delivery := none, timer := none },
        field := (s.command (.cv b) .closed).field,
        banks := (s.modBank b fun k => if k.state = .refilling then { k with state := .ready } else k).banks } := by
  unfold State.endDelivery
  cases hSpell : (s.command (.cv b) .closed).comp.spell with
  | none =>
    rw [closeSpell_none hSpell]
    rfl
  | some sp =>
    rw [closeSpell_some hSpell]
    rfl

theorem endDelivery_unmetered (h : s.comp.spell = none) :
    (s.endDelivery b).comp =
      { s.comp with
        queue := s.comp.queue.map fun e => if e.bank = b then { e with rise := none } else e,
        delivery := none, timer := none } := by
  rw [endDelivery_eq, closeSpell_none (s := s.command (.cv b) .closed) h]
  rfl

/-- Two changes of one bank's entry. -/
theorem map_entry_map_entry (queue : List RefillEntry) (b : Four) (f g : RefillEntry → RefillEntry)
    (hf : ∀ e, (f e).bank = e.bank) :
    ((queue.map fun e => if e.bank = b then f e else e).map fun e => if e.bank = b then g e else e) =
      queue.map fun e => if e.bank = b then g (f e) else e := by
  rw [List.map_map]
  refine List.map_congr_left fun e _ => ?_
  by_cases he : e.bank = b
  · rw [Function.comp_apply, if_pos he, if_pos ((hf e).trans he), if_pos he]
  · rw [Function.comp_apply, if_neg he, if_neg he, if_neg he]

theorem endDelivery_metered {sp : Spell} (h : s.comp.spell = some sp) :
    (s.endDelivery b).comp =
      { s.comp with
        queue := s.comp.queue.map fun e =>
          if e.bank = b then
            { e with
              delivered := e.delivered + spellMass sp.start (s.chan (.bank b)).pressure (s.bankCfg b).massFactor,
              rise := none }
          else e,
        totals := s.comp.totals.modify b fun x =>
          { x with
            delivered := min 4294967295
              (x.delivered + spellMass sp.start (s.chan (.bank b)).pressure (s.bankCfg b).massFactor) },
        delivery := none, spell := none, timer := none } := by
  rw [endDelivery_eq, closeSpell_some (s := s.command (.cv b) .closed) h]
  exact congrArg (fun q => { s.comp with
      queue := q,
      totals := s.comp.totals.modify b fun x =>
        { x with
          delivered := min 4294967295
            (x.delivered + spellMass sp.start (s.chan (.bank b)).pressure (s.bankCfg b).massFactor) },
      delivery := none, spell := none, timer := none })
    (map_entry_map_entry s.comp.queue b
      (fun e =>
        { e with delivered := e.delivered + spellMass sp.start (s.chan (.bank b)).pressure (s.bankCfg b).massFactor })
      (fun e => { e with rise := none }) fun _ => rfl)

theorem endDelivery_valve (s : State) (b : Four) (v : Valve) :
    (s.endDelivery b).valve v = if v = .cv b then ((s.valve v).command .closed).1 else s.valve v := by
  rw [endDelivery_eq]
  exact valve_command s (.cv b) v .closed

theorem endDelivery_bankState (s : State) (b : Four) :
    ((s.endDelivery b).bank b).state = if (s.bank b).state = .refilling then .ready else (s.bank b).state := by
  have hBank : (s.endDelivery b).bank b =
      if (s.bank b).state = .refilling then { s.bank b with state := .ready } else s.bank b := by
    rw [endDelivery_eq]
    exact (bank_modBank s b b _).trans (if_pos rfl)
  rw [hBank]
  split <;> rfl

/-! ## The entry to UNLOADING (R69) -/

theorem giveBack_none (h : s.comp.delivery = none) : s.giveBack = s := by
  unfold State.giveBack
  simp only [h]

theorem giveBack_some (h : s.comp.delivery = some b) : s.giveBack = s.endDelivery b := by
  unfold State.giveBack
  simp only [h]

/-- What a bank given back leaves as it was. -/
theorem giveBack_frame (s : State) :
    s.giveBack = { s with
      comp := s.giveBack.comp, field := { s.field with valves := s.giveBack.field.valves }, banks := s.giveBack.banks } := by
  cases h : s.comp.delivery with
  | none =>
    rw [giveBack_none h]
  | some b =>
    rw [giveBack_some h, endDelivery_eq]
    rfl

theorem enterUnloading_eq (s : State) :
    s.enterUnloading =
      { s.giveBack with
        comp := { s.giveBack.comp with state := .unloading, timer := some 6000 },
        field := { s.giveBack.field with valves := (s.giveBack.closeAll (Four.all.map .cv)).field.valves } } := by
  unfold State.enterUnloading
  rw [closeAll_eq]
  rfl

theorem giveBack_cv (s : State) (c : Four) :
    ((s.giveBack.valve (.cv c)).command .closed).1 = ((s.valve (.cv c)).command .closed).1 := by
  cases h : s.comp.delivery with
  | none => rw [giveBack_none h]
  | some b =>
    rw [giveBack_some h, endDelivery_valve]
    split
    · rw [command_command]
    · rfl

theorem giveBack_valve_other {v : Valve} (hv : ∀ c, v ≠ .cv c) (s : State) : s.giveBack.valve v = s.valve v := by
  cases h : s.comp.delivery with
  | none => rw [giveBack_none h]
  | some b => rw [giveBack_some h, endDelivery_valve, if_neg (hv b)]

theorem enterUnloading_valve (s : State) (v : Valve) :
    s.enterUnloading.valve v = (s.giveBack.closeAll (Four.all.map .cv)).valve v := rfl

theorem enterUnloading_cv (s : State) (c : Four) :
    s.enterUnloading.valve (.cv c) = ((s.valve (.cv c)).command .closed).1 := by
  rw [enterUnloading_valve, valve_closeAll, if_pos (List.mem_map.2 ⟨c, four_mem_all c, rfl⟩), giveBack_cv]

theorem enterUnloading_valve_other {v : Valve} (hv : ∀ c, v ≠ .cv c) (s : State) :
    s.enterUnloading.valve v = s.valve v := by
  rw [enterUnloading_valve, valve_closeAll, if_neg, giveBack_valve_other hv]
  intro hMem
  obtain ⟨c, -, hc⟩ := List.mem_map.1 hMem
  exact hv c hc.symm

/-- Settles O31: the expiries of the progress and the run-down timer, a loss, the end of a delivery and the entry to
UNLOADING. -/
theorem deliveryIsCheckedAndRunDown : Obligations.DeliveryIsCheckedAndRunDown := by
  refine ⟨fun s b hState hDelivery hTimer => ⟨fun p r hp hr hRise => ?_, fun p r hp hr hStall => ?_⟩,
    fun s hState hTimer => ⟨fun c hPending => ?_, fun hPending => ?_⟩, fun s b => ⟨loseBank_delivering, loseBank_other⟩,
    fun s b => ⟨_, rfl, endDelivery_unmetered, fun sp hSpell => endDelivery_metered hSpell, ?_, endDelivery_bankState s b, ?_⟩,
    fun s => ⟨_, rfl, enterUnloading_cv s, fun b d => ⟨enterUnloading_valve_other (fun c h => by cases h) s,
      enterUnloading_valve_other (fun c h => by cases h) s⟩, fun hNone => ?_, fun b hSome => ?_, ?_⟩⟩
  · have hRisen := (hasRisen_eq hp hr).trans (decide_eq_true hRise)
    rw [progressTimerExpiry_runs hState hDelivery hTimer, hRisen, hp]
    rfl
  · have hRisen := (hasRisen_eq hp hr).trans (decide_eq_false (Nat.not_le.2 hStall))
    rw [progressTimerExpiry_runs hState hDelivery hTimer, hRisen]
    rfl
  · exact ⟨_, runDownExpiry_runs (f := fun k => { k with
      state := .disabled, disableCause := some c, disablePending := none, timer := none, sinceOff := 0 })
      hState hTimer (by simp only [hPending, Option.elim]), rfl⟩
  · exact ⟨_, runDownExpiry_runs (f := fun k => { k with state := .rest, timer := some 30000, sinceOff := 0 })
      hState hTimer (by simp only [hPending, Option.elim]), rfl⟩
  · rw [endDelivery_valve, if_pos rfl]
  · rw [endDelivery_eq]
  · rw [enterUnloading_eq, giveBack_none hNone]
    exact ⟨rfl, rfl⟩
  · rw [enterUnloading_eq, giveBack_some hSome]
    exact ⟨rfl, rfl⟩
  · rw [enterUnloading_eq, giveBack_frame s]

end Sys2Proof.Machine
end

section
/-!
PROOF. The thermal update, the head of the precool wait list, and the entry to FUELLING (O32).
-/

namespace Sys2Proof.Machine

variable {s t : State}

/-! ## The balance and the stages (R78, R79) -/

/-- The state that the balance and the stage control leave, before the head of the wait list is tested. -/
def State.thermallyUpdated (s : State) : State :=
  s.balanceReserve.modPrecool fun p => { p.controlStages s.work.precool.eMax with thermal := some 1000 }

theorem thermalUpdate_eq (s : State) : exec .thermalUpdate s = .next (s.thermallyUpdated.take [.admitHead]) := rfl

/-- The reserve that a balance leaves: clamped between 0 and E_max. -/
def clampedReserve (r : Int) (eMax : Nat) : Nat := if r ≤ 0 then 0 else if (eMax : Int) ≤ r then eMax else r.toNat

theorem clampedReserve_eq (r : Int) (eMax : Nat) : clampedReserve r eMax = (min r eMax).toNat := by
  unfold clampedReserve
  split
  · omega
  · split <;> omega

theorem balanceReserve_precool (s : State) :
    s.balanceReserve.precool =
      { s.precool with
        reserve := clampedReserve (s.precool.balance s.work.precool) s.work.precool.eMax, charge := 0,
        lowMark := if s.precool.balance s.work.precool ≤ 0 then true
          else if 0 < clampedReserve (s.precool.balance s.work.precool) s.work.precool.eMax then false
          else s.precool.lowMark } := by
  unfold State.balanceReserve
  rw [clampedReserve_eq]
  dsimp only
  split <;> rfl

theorem balanceReserve_link (s : State) :
    s.balanceReserve.link =
      if s.precool.balance s.work.precool ≤ 0 ∧ s.precool.lowMark = false then
        s.link.post .precoolLow .precool (s.precool.table.toList.filter (·.isSome)).length
      else s.link := by
  unfold State.balanceReserve
  dsimp only
  split <;> rfl

theorem balanceReserve_frame (s : State) :
    s.balanceReserve = { s with link := s.balanceReserve.link, precool := s.balanceReserve.precool } := by
  unfold State.balanceReserve
  dsimp only
  split <;> rfl

theorem thermallyUpdated_precool (s : State) :
    s.thermallyUpdated.precool =
      { s.balanceReserve.precool.controlStages s.work.precool.eMax with thermal := some 1000 } := rfl

theorem thermallyUpdated_link (s : State) : s.thermallyUpdated.link = s.balanceReserve.link := rfl

theorem thermallyUpdated_frame (s : State) :
    s.thermallyUpdated = { s with link := s.thermallyUpdated.link, precool := s.thermallyUpdated.precool } := by
  unfold State.thermallyUpdated
  rw [balanceReserve_frame s]
  rfl

theorem thermallyUpdated_waitList (s : State) : s.thermallyUpdated.precool.waitList = s.precool.waitList := by
  rw [thermallyUpdated_precool, balanceReserve_precool]
  rfl

theorem thermallyUpdated_table (s : State) : s.thermallyUpdated.precool.table = s.precool.table := by
  rw [thermallyUpdated_precool, balanceReserve_precool]
  rfl

/-- The reserve, the charge, the stages and the low mark that a balance of `r` leaves. -/
theorem thermallyUpdated_still (s : State) {r : Int} (hr : s.precool.balance s.work.precool = r) {e : Nat}
    (he : clampedReserve r s.work.precool.eMax = e) :
    s.thermallyUpdated.precool.still =
      (e, 0,
        if e * 100 < s.work.precool.eMax * 95 then true else if e = s.work.precool.eMax then false else s.precool.stage1,
        if e * 100 < s.work.precool.eMax * 70 then true
        else if s.work.precool.eMax * 85 ≤ e * 100 then false else s.precool.stage2,
        if r ≤ 0 then true else if 0 < e then false else s.precool.lowMark) := by
  subst hr he
  rw [thermallyUpdated_precool, balanceReserve_precool]
  rfl

theorem clampedReserve_pos {r : Int} {eMax : Nat} (h : 0 < clampedReserve r eMax) : ¬ r ≤ 0 := fun hr => by
  rw [clampedReserve, if_pos hr] at h
  exact absurd h (Nat.lt_irrefl 0)

/-- The head of the wait list leaves the reserve and the stages alone. -/
theorem take_still (s : State) (ts : List Task) : (s.take ts).precool.still = s.precool.still :=
  congrArg (fun x => x.2.2.2.2.2.2) (kept_take (Kept.refl s) ts).1

/-! ## The head of the wait list (R86) -/

theorem admitHead_empty (h : s.precool.waitList = []) : s.admitHead = (s, []) := by
  unfold State.admitHead
  simp only [h]

theorem admitHead_first {w : PrecoolPlace} {rest : List PrecoolPlace} (h : s.precool.waitList = w :: rest) :
    s.admitHead =
      (s.admissionTest w.request).elim (s, []) fun x =>
        (State.reserve { s with precool := { s.precool with waitList := rest } } w.request x.1 x.2,
          [.enterFuelling w.request.disp x.1 x.2, .admitHead]) := by
  unfold State.admitHead
  simp only [h]
  cases s.admissionTest w.request <;> rfl

theorem take_admitHead_empty (h : s.precool.waitList = []) : s.take [.admitHead] = s :=
  take_single (admitHead_empty h)

/-! ## The entry to FUELLING (R119) -/

/-- The fill of `d` entered at grade `g` with its figures: steps 1 to 3 of R119. -/
def State.fuelEntered (s : State) (d : Four) (g : Grade) (x : Figures) (f : Fill) (p0 : Nat) : State :=
  (s.modDisp d fun p =>
    { p with
      state := .fuelling,
      fill := some { f with
        ramp := some ⟨g, x.target, x.rate, x.expected, p0, 0, none⟩, admitted := some g, downgrades := some 0 },
      timers := { p.timers with
        leak := none, ramp := some 1000,
        fill := some ((if f.nozzle = .hp then s.work.site.hpFillTime else s.work.site.mpFillTime) * 1000) } }).setPcv d
    (min p0 x.target)

/-- The receiver that a fill entered watches (R102). -/
def State.watched (s : State) (d : Four) : State := s.modReceiver d fun v => { v with watch := .watching }

theorem fillTimeLimit_eq (c : SiteCfg) (z : Nozzle) :
    fillTimeLimit c z = if z = .hp then c.hpFillTime else c.mpFillTime := by cases z <;> rfl

section

variable {d : Four} {g : Grade} {x : Figures} {f : Fill} {p0 : Nat}

theorem enterFuelling_eq (hState : (s.disp d).state = .leakCheck ∨ (s.disp d).state = .waitPrecool)
    (hFill : (s.disp d).fill = some f) (hp0 : f.p0 = some p0) :
    s.enterFuelling d g x =
      if (s.receiver d).watch = .pending then
        (s.receiver d).freshReport.elim ((s.fuelEntered d g x f p0).watched d, [.fallback d, .fuelRequest d]) fun r =>
          (if r.command = .halt then ((s.fuelEntered d g x f p0).watched d).modDisp d (·.setHalt)
            else (s.fuelEntered d g x f p0).watched d, [.fuelRequest d])
      else (s.fuelEntered d g x f p0, [.fuelRequest d]) := by
  have hEntered : (s.modDisp d fun p =>
      { p with
        state := .fuelling,
        fill := p.fill.map fun r =>
          { r with
            ramp := some (Ramp.mk g x.target x.rate x.expected (r.p0.getD 0) 0 none), admitted := some g,
            downgrades := some 0 },
        timers := { p.timers with
          leak := none, ramp := some 1000,
          fill := seconds (fillTimeLimit s.work.site (s.fillNozzle d)) } }).commandSetpoint d =
      s.fuelEntered d g x f p0 := by
    have hDisp : s.modDisp d (fun p =>
        { p with
          state := .fuelling,
          fill := p.fill.map fun r =>
            { r with
              ramp := some (Ramp.mk g x.target x.rate x.expected (r.p0.getD 0) 0 none), admitted := some g,
              downgrades := some 0 },
          timers := { p.timers with
            leak := none, ramp := some 1000,
            fill := seconds (fillTimeLimit s.work.site (s.fillNozzle d)) } }) =
        s.modDisp d fun p =>
          { p with
            state := .fuelling,
            fill := some { f with
              ramp := some ⟨g, x.target, x.rate, x.expected, p0, 0, none⟩, admitted := some g, downgrades := some 0 },
            timers := { p.timers with
              leak := none, ramp := some 1000,
              fill := some ((if f.nozzle = .hp then s.work.site.hpFillTime else s.work.site.mpFillTime) * 1000) } } := by
      refine modDisp_congr ?_
      dsimp only
      rw [fillNozzle_of_fill hFill, fillTimeLimit_eq, hFill, Option.map_some, hp0]
      rfl
    rw [hDisp, commandSetpoint_modDisp rfl rfl]
    unfold State.fuelEntered Ramp.setpoint
    rw [Nat.zero_mul, Nat.add_zero]
  unfold State.enterFuelling
  rw [if_pos hState]
  dsimp only
  rw [hEntered]
  cases (s.receiver d).freshReport <;> rfl

end

theorem setHalt_set {p : Dispenser} (h : p.vehicleHalt = true) : p.setHalt = p := if_pos h

theorem modDisp_setHalt_set {d : Four} (h : (s.disp d).vehicleHalt = true) : s.modDisp d (·.setHalt) = s :=
  (modDisp_congr (g := id) (setHalt_set h)).trans (by
    unfold State.modDisp
    cases d <;> rfl)

theorem modDisp_setHalt_clear {d : Four} (h : (s.disp d).vehicleHalt = false) :
    s.modDisp d (·.setHalt) =
      s.modDisp d fun p => { p with vehicleHalt := true, timers := { p.timers with halt := some 10000 } } := by
  refine modDisp_congr ?_
  unfold Dispenser.setHalt
  rw [h]
  rfl

theorem fuelEntered_vehicleHalt (s : State) (d : Four) (g : Grade) (x : Figures) (f : Fill) (p0 : Nat) :
    (((s.fuelEntered d g x f p0).watched d).disp d).vehicleHalt = (s.disp d).vehicleHalt := by
  have hDisp : ((s.fuelEntered d g x f p0).watched d).disp d = (s.modDisp d _).disp d := rfl
  rw [hDisp, disp_modDisp, if_pos rfl]

theorem fuelRequest_failed {d : Four} (hState : (s.disp d).state = .fuelling) (hFailed : (s.chan (.outlet d)).state = .failed) :
    s.fuelRequest d = (s, [.endCause d .sensor]) := (if_pos hState).trans (if_pos hFailed)

theorem fuelRequest_asks {d : Four} (hState : (s.disp d).state = .fuelling) (hGood : (s.chan (.outlet d)).state ≠ .failed) :
    s.fuelRequest d = (s, [.walk d none, .fuelCheckpoint d]) := (if_pos hState).trans (if_neg hGood)

/-- Settles O32: the balance by `thermallyUpdated_still`, which the head of the wait list keeps, and the entry to FUELLING
by `enterFuelling_eq`. -/
theorem theReserveIsBalancedEachSecond : Obligations.TheReserveIsBalancedEachSecond := by
  refine ⟨fun s => ⟨_, thermalUpdate_eq s, ?_⟩, fun s => ⟨_, thermalUpdate_eq s, thermallyUpdated_waitList s,
    thermallyUpdated_table s, thermallyUpdated_frame s⟩, fun s => ⟨admitHead_empty, fun w rest hList => ⟨?_, ?_⟩⟩,
    fun s d g x f p0 hState hFill hp0 => ?_, fun s d hState => ⟨fuelRequest_failed hState, fuelRequest_asks hState, rfl⟩,
    fun s d hState => if_neg hState⟩
  · intro c r e
    have hStill := (take_still s.thermallyUpdated [.admitHead]).trans (thermallyUpdated_still s (r := r) rfl (e := e) rfl)
    obtain ⟨hReserve, hCharge, hStage1, hStage2, hLow⟩ : _ ∧ _ ∧ _ ∧ _ ∧ _ := by
      simpa only [Precool.still, Prod.mk.injEq] using hStill
    refine ⟨hReserve, hCharge, fun hr => hLow.trans (if_pos hr), fun he => ?_, hStage1, hStage2, fun hEmpty => ?_⟩
    · exact hLow.trans ((if_neg (clampedReserve_pos (eMax := c.eMax) he)).trans (if_pos he))
    · rw [take_admitHead_empty ((thermallyUpdated_waitList s).trans hEmpty)]
      exact ⟨thermallyUpdated_table s, (thermallyUpdated_waitList s).trans hEmpty, rfl, balanceReserve_link s,
        thermallyUpdated_frame s⟩
  · intro hNone
    rw [admitHead_first hList, hNone]
    rfl
  · intro g f hSome
    rw [admitHead_first hList, hSome]
    rfl
  · intro limit t fresh u
    have hEntry := enterFuelling_eq (g := g) (x := x) hState hFill hp0
    refine ⟨fun hWatch => hEntry.trans (if_neg hWatch), fun hWatch => ?_⟩
    have hEntry := hEntry.trans (if_pos hWatch)
    refine ⟨fun hNone => ?_, fun r hSome hOr => ?_, fun r hSome hHalt hClear => ?_⟩
    · have hReport : (s.receiver d).freshReport = none := hNone
      rw [hEntry, hReport]
      rfl
    · have hReport : (s.receiver d).freshReport = some r := hSome
      rw [hEntry, hReport, Option.elim_some]
      rcases hOr with hNot | hSet
      · rw [if_neg hNot]
        rfl
      · rw [modDisp_setHalt_set ((fuelEntered_vehicleHalt s d g x f p0).trans hSet), ite_self]
        rfl
    · have hReport : (s.receiver d).freshReport = some r := hSome
      rw [hEntry, hReport, Option.elim_some, if_pos hHalt,
        modDisp_setHalt_clear ((fuelEntered_vehicleHalt s d g x f p0).trans hClear)]
      rfl

end Sys2Proof.Machine
end

section
/-!
PROOF. A configuration item written is read back (O52).
-/

namespace Sys2Proof.Machine

/-! ## Items that read back what is written -/

section

variable {α : Type}

/-- A value within the item's range, written, is what the item then reads. -/
def Item.ReadsBack (x : Item α) : Prop := ∀ (a : α) (v : Int), x.good v = true → x.read (x.write a v) = v

theorem natItem_readsBack {low high : Nat} {read : α → Nat} {write : α → Nat → α}
    (h : ∀ a n, low ≤ n → n ≤ high → read (write a n) = n) : (natItem low high read write).ReadsBack := by
  intro a v hGood
  obtain ⟨hLow, hHigh⟩ := within_eq_true.1 hGood
  have hRead : read (write a v.toNat) = v.toNat := h a v.toNat (by omega) (by omega)
  change ((read (write a v.toNat) : Nat) : Int) = v
  omega

theorem boolItem_readsBack {read : α → Bool} {write : α → Bool → α} (h : ∀ a b, read (write a b) = b) :
    (boolItem read write).ReadsBack := by
  intro a v hGood
  obtain ⟨hLow, hHigh⟩ := within_eq_true.1 hGood
  change ((read (write a (decide (v = 1)))).toNat : Int) = v
  rw [h]
  by_cases hOne : v = 1
  · subst hOne
    rfl
  · rw [decide_eq_false hOne]
    change (0 : Int) = v
    omega

theorem intItem_readsBack {low high : Int} {read : α → Int} {write : α → Int → α} (h : ∀ a v, read (write a v) = v) :
    (intItem low high read write).ReadsBack := fun a v _ => h a v

theorem optItem_readsBack {low high : Nat} {read : α → Option Nat} {write : α → Option Nat → α}
    (h : ∀ a o, read (write a o) = o) : (optItem low high read write).ReadsBack := by
  intro a v hGood
  change (((read (write a (if v = 0 then none else some v.toNat))).getD 0 : Nat) : Int) = v
  rw [h]
  by_cases hZero : v = 0
  · rw [if_pos hZero]
    exact hZero.symm
  · rw [if_neg hZero]
    obtain hAbsent | hWithin := Bool.or_eq_true _ _ ▸ hGood
    · exact absurd (of_decide_eq_true hAbsent) hZero
    · obtain ⟨hLow, -⟩ := within_eq_true.1 hWithin
      change ((v.toNat : Nat) : Int) = v
      omega

end

/-! ## The groups' items -/

theorem siteItem_readsBack {item : Nat} {x : Item SiteCfg} (h : siteItem item = some x) : x.ReadsBack := by
  unfold siteItem at h
  split at h <;> cases h
  case h_2 =>
    refine natItem_readsBack fun a n _ hn => ?_
    interval_cases n <;> rfl
  case h_19 | h_20 | h_21 | h_22 | h_23 => exact boolItem_readsBack fun _ _ => rfl
  all_goals exact natItem_readsBack fun _ _ _ _ => rfl

theorem bankItem_readsBack {item : Nat} {x : Item BankCfg} (h : bankItem item = some x) : x.ReadsBack := by
  unfold bankItem at h
  split at h <;> cases h
  all_goals exact natItem_readsBack fun _ _ _ _ => rfl

theorem precoolItem_readsBack {item : Nat} {x : Item PrecoolCfg} (h : precoolItem item = some x) : x.ReadsBack := by
  unfold precoolItem at h
  split at h <;> cases h
  case h_6 | h_7 | h_8 | h_9 | h_10 | h_11 => exact intItem_readsBack fun _ _ => rfl
  all_goals exact natItem_readsBack fun _ _ _ _ => rfl

theorem rampItem_readsBack {z : Nozzle} {item : Nat} {x : Item RampRow} (h : rampItem z item = some x) : x.ReadsBack := by
  unfold rampItem at h
  split at h <;> cases h
  all_goals exact natItem_readsBack fun _ _ _ _ => rfl

theorem classItem_readsBack {item : Nat} {x : Item ClassEntry} (h : classItem item = some x) : x.ReadsBack := by
  unfold classItem at h
  split at h <;> cases h
  case h_1 => exact boolItem_readsBack fun _ _ => rfl
  case h_2 =>
    refine natItem_readsBack fun a n hLow hHigh => ?_
    interval_cases n <;> rfl
  case h_4 =>
    intro a v hGood
    change ((v.toNat : Nat) : Int) = v
    have hValues : v = 0 ∨ v = 4 ∨ v = 8 := of_decide_eq_true hGood
    omega
  case h_7 | h_8 => exact optItem_readsBack fun _ _ => rfl
  all_goals exact natItem_readsBack fun _ _ _ _ => rfl

theorem genericItem_readsBack {item : Nat} {x : Item GenericClass} (h : genericItem item = some x) : x.ReadsBack := by
  unfold genericItem at h
  split at h <;> cases h
  case h_1 => exact natItem_readsBack fun _ _ _ _ => rfl
  all_goals exact optItem_readsBack fun _ _ => rfl

theorem tariffItem_readsBack {item : Nat} {x : Item Tariff} (h : tariffItem item = some x) : x.ReadsBack := by
  unfold tariffItem at h
  split at h <;> cases h
  all_goals exact natItem_readsBack fun _ _ _ _ => rfl

/-! ## A write that is taken -/

section

variable {w w' : WorkConfig} {group index item : Nat} {v : Word}

theorem firstBad_nil_of_good {i : Nat} {good : Bool} {rest : List (Nat × Bool)} (h : firstBad ((i, good) :: rest) = none) :
    good = true ∧ firstBad rest = none := by
  unfold firstBad at h
  split at h
  · next hGood => exact ⟨hGood, h⟩
  · cases h

/-- The value of a write that is taken lies within its item's range (R188). -/
theorem valueRange_of_write (h : writeConfig w group index item v = .inr w') :
    ∃ good, valueRange group index item = some good ∧ good v = true := by
  have hChecks : firstBad (writeChecks group index item v) = none := by
    unfold writeConfig at h
    split at h
    · cases h
    · next hNone => exact hNone
  obtain ⟨-, hChecks⟩ := firstBad_nil_of_good hChecks
  obtain ⟨-, hChecks⟩ := firstBad_nil_of_good hChecks
  obtain ⟨hItem, hChecks⟩ := firstBad_nil_of_good hChecks
  obtain ⟨hValue, -⟩ := firstBad_nil_of_good hChecks
  obtain ⟨good, hGood⟩ := Option.isSome_iff_exists.1 hItem
  rw [hGood] at hValue
  exact ⟨good, hGood, hValue⟩

/-- An item written, its value in range, is read back from what is put in its place. -/
theorem item_readsBack {α : Type} {i : Option (Item α)} {rel : α → Bool} {a : α} {put : α → WorkConfig}
    {good : Word → Bool} (hRange : (i.map fun x v => x.good v.toInt) = some good) (hGood : good v = true)
    (hLawful : ∀ x, i = some x → x.ReadsBack) (h : writeItem i rel a v.toInt put = .inr w') :
    ∃ c, w' = put c ∧ i.map (·.read c) = some v.toInt := by
  obtain ⟨x, rfl, -, rfl⟩ := writeItem_inr h
  obtain rfl := Option.some.inj hRange
  exact ⟨_, rfl, congrArg some (hLawful x rfl a v.toInt hGood)⟩

theorem readsBack_site (h : writeGroup w 1 index item v = .inr w') {good : Word → Bool}
    (hRange : valueRange 1 index item = some good) (hGood : good v = true) :
    readItem w' 1 index item = some v.toInt := by
  unfold writeGroup at h
  obtain ⟨c, rfl, hRead⟩ := item_readsBack hRange hGood (fun x => siteItem_readsBack) h
  exact hRead

theorem readsBack_bank {b : Four} (hb : Four.ofNat? index = some b) (h : writeGroup w 2 index item v = .inr w')
    {good : Word → Bool} (hRange : valueRange 2 index item = some good) (hGood : good v = true) :
    readItem w' 2 index item = some v.toInt := by
  unfold writeGroup at h
  simp only [hb] at h
  obtain ⟨c, rfl, hRead⟩ := item_readsBack hRange hGood (fun x => bankItem_readsBack) h
  unfold readItem
  simp only [hb, Option.bind_some, quad_get_set, if_true]
  exact hRead

theorem packCascade_unpacked {bs : List Four} (h : unpackCascade v = some bs) : packCascade bs = v.toInt := by
  obtain ⟨-, hBytes⟩ := unpackCascade_eq_some.1 h
  have hValue : beValue (bs.map Four.field ++ List.replicate (4 - bs.length) 0) = v.toNat := by
    rw [← hBytes, beValue_word4]
  change (BitVec.ofNat 32 (beValue (bs.map Four.field ++ List.replicate (4 - bs.length) 0))).toInt = _
  rw [hValue, BitVec.ofNat_toNat, BitVec.setWidth_eq]

theorem readsBack_disp {d : Four} (hd : Four.ofNat? index = some d) (hLow : 1 ≤ item) (hHigh : item ≤ 3)
    (h : writeGroup w 3 index item v = .inr w') {good : Word → Bool} (hRange : valueRange 3 index item = some good)
    (hGood : good v = true) : readItem w' 3 index item = some v.toInt := by
  unfold writeGroup at h
  simp only [hd] at h
  unfold readItem
  simp only [hd, Option.bind_some]
  interval_cases item
  · have hNozzle : (if v = 1 then Sum.inr { w with disps := w.disps.set d { w.disps.get d with nozzle := .hp } }
        else if v = 2 then Sum.inr { w with disps := w.disps.set d { w.disps.get d with nozzle := .mp } }
        else Sum.inl 4) = (Sum.inr w' : Nat ⊕ WorkConfig) := h
    split at hNozzle
    · next hOne =>
      obtain rfl := Sum.inr.inj hNozzle
      subst hOne
      simp
    · split at hNozzle
      · next hTwo =>
        obtain rfl := Sum.inr.inj hNozzle
        subst hTwo
        simp
      · cases hNozzle
  · cases hBanks : unpackCascade v with
    | none =>
      simp only [writeDisp, hBanks] at h
      cases h
    | some bs =>
      simp only [writeDisp, hBanks] at h
      split at h
      · obtain rfl := Sum.inr.inj h
        simp only [quad_get_set, if_true]
        exact congrArg some (packCascade_unpacked hBanks)
      · cases h
  · obtain rfl := Option.some.inj hRange
    simp only [writeDisp] at h
    obtain ⟨x, hx, -, rfl⟩ := writeItem_inr h
    obtain rfl := Option.some.inj hx
    simp only [quad_get_set, if_true]
    exact congrArg some (boolItem_readsBack (fun _ _ => rfl) (w.disps.get d) v.toInt hGood)

theorem readsBack_precool (h : writeGroup w 4 index item v = .inr w') {good : Word → Bool}
    (hRange : valueRange 4 index item = some good) (hGood : good v = true) :
    readItem w' 4 index item = some v.toInt := by
  unfold writeGroup at h
  obtain ⟨c, rfl, hRead⟩ := item_readsBack hRange hGood (fun x => precoolItem_readsBack) h
  exact hRead

theorem row_setRampRow {p : Nozzle × Grade} (h : rampPair index = some p) (t : RampTable) (r : RampRow) :
    RampTable.row (setRampRow t index r) p.1 p.2 = r := by
  unfold rampPair at h
  split at h <;> cases h <;> rfl

theorem readsBack_ramp (h : writeGroup w 5 index item v = .inr w') {good : Word → Bool}
    (hRange : valueRange 5 index item = some good) (hGood : good v = true) :
    readItem w' 5 index item = some v.toInt := by
  unfold writeGroup at h
  unfold valueRange at hRange
  unfold readItem
  dsimp only at h hRange ⊢
  cases hPair : rampPair index with
  | none =>
    rw [hPair] at hRange
    cases hRange
  | some p =>
    rw [hPair, Option.bind_some] at hRange
    simp only [hPair] at h
    obtain ⟨c, rfl, hRead⟩ := item_readsBack hRange hGood (fun x => rampItem_readsBack) h
    rw [Option.bind_some, row_setRampRow hPair]
    exact hRead

/-- What entry 0 of the class table reads of the items that it holds (R96). -/
theorem readItem_generic (w : WorkConfig) {item : Nat} (h : 3 ≤ item) :
    readItem w 6 0 item = (genericItem item).map (·.read w.generic) := by
  obtain ⟨n, rfl⟩ := Nat.exists_eq_add_of_le' h
  rfl

theorem writeGroup_generic (w : WorkConfig) (item : Nat) (v : Word) :
    writeGroup w 6 0 item v = writeItem (genericItem item) noRelation w.generic v.toInt fun c => { w with generic := c } :=
  rfl

theorem readsBack_generic (h : writeGroup w 6 0 item v = .inr w') {good : Word → Bool}
    (hRange : valueRange 6 0 item = some good) (hGood : good v = true) : readItem w' 6 0 item = some v.toInt := by
  rw [writeGroup_generic] at h
  obtain ⟨c, rfl, hRead⟩ := item_readsBack hRange hGood (fun x => genericItem_readsBack) h
  have hHeld : 3 ≤ item := by
    by_contra hFew
    rw [genericItem_none (by omega)] at hRead
    cases hRead
  exact (readItem_generic _ hHeld).trans hRead

theorem readsBack_class (hIndex : index ≠ 0) (h : writeGroup w 6 index item v = .inr w') {good : Word → Bool}
    (hRange : valueRange 6 index item = some good) (hGood : good v = true) :
    readItem w' 6 index item = some v.toInt := by
  unfold writeGroup at h
  unfold valueRange at hRange
  dsimp only at h hRange
  rw [if_neg hIndex] at h hRange
  cases hEntry : w.classes[index - 1]? with
  | none =>
    simp only [hEntry] at h
    cases h
  | some e =>
    simp only [hEntry] at h
    obtain ⟨c, rfl, hRead⟩ := item_readsBack hRange hGood (fun x => classItem_readsBack) h
    obtain ⟨hLength, -⟩ := List.getElem?_eq_some_iff.1 hEntry
    unfold readItem
    dsimp only
    rw [if_neg hIndex, List.getElem?_set_self hLength]
    exact hRead

theorem readsBack_tariff (h : writeGroup w 7 index item v = .inr w') {good : Word → Bool}
    (hRange : valueRange 7 index item = some good) (hGood : good v = true) :
    readItem w' 7 index item = some v.toInt := by
  unfold writeGroup at h
  dsimp only at h
  cases hEntry : w.tariffs[index]? with
  | none =>
    simp only [hEntry] at h
    cases h
  | some e =>
    simp only [hEntry] at h
    obtain ⟨c, rfl, hRead⟩ := item_readsBack hRange hGood (fun x => tariffItem_readsBack) h
    obtain ⟨hLength, -⟩ := List.getElem?_eq_some_iff.1 hEntry
    unfold readItem
    dsimp only
    rw [List.getElem?_set_self hLength]
    exact hRead

end

/-- An index between 1 and 4 names one of the four. -/
theorem ofNat?_of_between {n : Nat} (h : between 1 4 n = true) : ∃ d, Four.ofNat? n = some d := by
  obtain ⟨hLow, hHigh⟩ := between_eq_true.1 h
  interval_cases n <;> exact ⟨_, rfl⟩

/-- Settles O52, group by group. -/
theorem whatIsWrittenIsReadBack : Obligations.WhatIsWrittenIsReadBack := by
  intro w w' group index item v hItem _ hWrite
  obtain ⟨good, hRange, hGood⟩ := valueRange_of_write hWrite
  have hGroup := writeConfig_group hWrite
  obtain ⟨hGroups, hIndex, hItems⟩ := itemBad_eq_none hItem
  obtain ⟨hLow, hHigh⟩ := between_eq_true.1 hGroups
  interval_cases group
  · exact readsBack_site hGroup hRange hGood
  · obtain ⟨b, hb⟩ := ofNat?_of_between hIndex
    exact readsBack_bank hb hGroup hRange hGood
  · obtain ⟨d, hd⟩ := ofNat?_of_between hIndex
    obtain ⟨hFirst, hLast⟩ := between_eq_true.1 hItems
    exact readsBack_disp hd hFirst hLast hGroup hRange hGood
  · exact readsBack_precool hGroup hRange hGood
  · exact readsBack_ramp hGroup hRange hGood
  · by_cases hZero : index = 0
    · subst hZero
      exact readsBack_generic hGroup hRange hGood
    · exact readsBack_class hZero hGroup hRange hGood
  · exact readsBack_tariff hGroup hRange hGood

end Sys2Proof.Machine
end

section
/-!
PROOF. RESET and RESUME (O54).
-/

namespace Sys2Proof.Machine

variable {s u : State}

theorem quad_mem_toList {α : Type} {q : Quad α} {x : α} : x ∈ q.toList ↔ ∃ d, q.get d = x := by
  unfold Quad.toList
  constructor
  · intro h
    simp only [List.mem_cons, List.not_mem_nil, or_false] at h
    rcases h with rfl | rfl | rfl | rfl
    · exact ⟨.one, rfl⟩
    · exact ⟨.two, rfl⟩
    · exact ⟨.three, rfl⟩
    · exact ⟨.four, rfl⟩
  · rintro ⟨d, rfl⟩
    cases d <;> simp [Quad.get]

theorem anyFilling_iff (s : State) : s.anyFilling = true ↔ ∃ d, (s.disp d).state.filling = true := by
  unfold State.anyFilling
  rw [List.any_eq_true]
  constructor
  · rintro ⟨p, hp, hFill⟩
    obtain ⟨d, rfl⟩ := quad_mem_toList.1 hp
    exact ⟨d, hFill⟩
  · rintro ⟨d, hFill⟩
    exact ⟨_, quad_mem_toList.2 ⟨d, rfl⟩, hFill⟩

theorem anyFilling_false (h : ¬ ∃ d, (s.disp d).state.filling = true) : s.anyFilling = false :=
  Bool.eq_false_iff.2 fun hAny => h ((anyFilling_iff s).1 hAny)

/-! ## RESET (R128, R190) -/

theorem reset_offered {g force : Byte} {t : State} {a : Answer} (h : s.Offers 0x05 g [force] u)
    (hForce : force = 0 ∨ force = 1) (ht : u.takeReset (decide (force = 1)) = (t, a)) :
    exec (.reset g force) s = .next (t.sendReply a) := by
  have hChecks : firstBad (fieldChecks (0x05 : Byte).toNat [force]) = none := by
    rcases hForce with rfl | rfl <;> rfl
  exact congrArg Host.Outcome.next (takeRequest_answering h rfl hChecks ht)

theorem takeReset_filling (h : u.anyFilling = true) : u.takeReset false = (u, notNow .filling) :=
  if_pos (by rw [h]; rfl)

theorem takeReset_rest (h : u.anyFilling = false) (hPending : u.sup.resetPending = false) :
    u.takeReset false = ({ u with sup := { u.sup with resetAsked := .asked } }, okAnswer) := by
  have hKept : ({ u.sup with resetAsked := .asked, resetPending := false } : Supervisor) =
      { u.sup with resetAsked := .asked } := by rw [← hPending]
  unfold State.takeReset State.askReset
  rw [h, hPending]
  exact congrArg (fun v : Supervisor => (({ u with sup := v } : State), okAnswer)) hKept

theorem takeReset_pending (hPending : u.sup.resetPending = true) : u.takeReset true = (u, okAnswer) := by
  unfold State.takeReset State.askReset
  rw [hPending, Bool.not_true, Bool.and_false]
  rfl

/-- A forced RESET orders every dispenser to end (R128). -/
theorem takeReset_forced (hPending : u.sup.resetPending = false) :
    u.takeReset true =
      (State.take { u with sup := { u.sup with resetAsked := .asked, resetPending := true } }
        [.endCause .one .reset, .endCause .two .reset, .endCause .three .reset, .endCause .four .reset], okAnswer) := by
  unfold State.takeReset State.askReset
  rw [hPending, Bool.not_true, Bool.and_false]
  rfl

/-! ## RESUME (R74, R187) -/

theorem resume_offered {g : Byte} {t : State} {a : Answer} (h : s.Offers 0x06 g [] u) (ht : u.resume = (t, a)) :
    exec (.resume g) s = .next (t.sendReply a) := congrArg Host.Outcome.next (takeRequest_answering h rfl rfl ht)

theorem clearLatches_get (u : State) (c : FaultCause) :
    u.clearLatches.sup.latches.get c = (u.sup.latches.get c && u.faultPresent c) := by cases c <;> rfl

theorem clearLatches_overSet (u : State) (b : Four) :
    u.clearLatches.sup.latches.overSet.get b = (u.sup.latches.overSet.get b && u.overpressureHolds b) := by
  cases b <;> rfl

theorem resume_ready (h : u.sup.station = .ready) : u.resume = (u.clearLatches, okAnswer) := by
  have hStation : u.clearLatches.sup.station = .ready := h
  unfold State.resume
  simp only [hStation]

theorem fault_mem_all (c : FaultCause) : c ∈ FaultCause.all := by cases c <;> simp [FaultCause.all]

theorem resume_latched {c : FaultCause} (h : u.sup.station = .shutdown)
    (hLatched : u.clearLatches.sup.latches.get c = true)
    (hEnabled : SiteCfg.enabled u.clearLatches.work.site c = true) :
    u.resume = (u.clearLatches, notNow .latched) := by
  have hStation : u.clearLatches.sup.station = .shutdown := h
  have hCause : u.clearLatches.shutdownCause.isSome = true :=
    List.find?_isSome.2 ⟨c, fault_mem_all c, by rw [hLatched, hEnabled]; rfl⟩
  unfold State.resume
  simp only [hStation]
  exact if_pos hCause

/-- A station back in READY by RESUME, STATION_RESUMED posted (R187). -/
def State.resumed (s : State) : State :=
  { s with sup := { s.sup with station := .ready }, link := s.link.post .stationResumed .station 0 }

theorem resume_returns (h : u.sup.station = .shutdown)
    (hNone : ∀ c, u.clearLatches.sup.latches.get c = true → SiteCfg.enabled u.clearLatches.work.site c = false) :
    u.resume = (u.clearLatches.resumed.compResume.evalStart, okAnswer) := by
  have hStation : u.clearLatches.sup.station = .shutdown := h
  unfold State.resume
  simp only [hStation]
  rw [shutdownCause_none hNone]
  rfl

theorem resumed_sup (s : State) :
    s.resumed.compResume.evalStart.sup = { s.sup with station := .ready } :=
  (compFrame_evalStart (compFrame_compResume (CompFrame.refl s.resumed))).sup

theorem resumed_buffer (s : State) : s.resumed.compResume.evalStart.link.buffer = s.link.buffer := by
  have hKept := (kept_evalStart (kept_compResume (Kept.refl s.resumed))).1
  exact (congrArg (fun x => x.2.1.2.2.1) hKept).trans (post_buffer s.link .stationResumed .station 0)

/-- Settles O54: RESET by `takeReset`'s cases, RESUME by `resume`'s. -/
theorem resetAndResumeAreTaken : Obligations.ResetAndResumeAreTaken := by
  intro s u g filling gone
  refine ⟨fun h => ⟨fun hFill => ?_, fun hRest hPending => ?_⟩, fun h => ⟨fun hPending => ?_, fun hPending => ?_⟩,
    fun h => ⟨clearLatches_get u, clearLatches_overSet u, rfl, fun hReady => ?_, fun hShut => ⟨fun c hLatched hEnabled => ?_,
      fun hNone => ?_⟩⟩⟩
  · exact reset_offered h (.inl rfl) (takeReset_filling ((anyFilling_iff u).2 hFill))
  · exact reset_offered h (.inl rfl) (takeReset_rest (anyFilling_false hRest) hPending)
  · exact reset_offered h (.inr rfl) (takeReset_pending hPending)
  · exact reset_offered h (.inr rfl) (takeReset_forced hPending)
  · exact resume_offered h (resume_ready hReady)
  · exact resume_offered h (resume_latched hShut hLatched hEnabled)
  · intro back
    refine ⟨_, resume_offered h (resume_returns hShut hNone), resumed_sup gone, rfl, ?_⟩
    have hBuffer : gone.link.buffer = some ⟨0x06, g, [], .waiting⟩ := Offers.buffer (u := u) h
    exact replies_sendReply (v := .waiting) _ ((resumed_buffer gone).trans hBuffer)

end Sys2Proof.Machine
end

section
/-!
PROOF. What the resets leave and what they keep (O55).
-/

namespace Sys2Proof.Machine

variable {s : State}

/-! ## When a STATION_RESET acts (R190) -/

theorem closes_iff (x : EntryStore) : x.closes = true ↔ ∃ e, x = .close e := by
  cases x <;> simp [EntryStore.closes]

theorem closing_iff (g : TransLog) : g.closing = true ↔ ∃ e, EntryStore.close e ∈ g.stores := by
  unfold TransLog.closing
  rw [List.any_eq_true]
  constructor
  · rintro ⟨x, hx, hCloses⟩
    obtain ⟨e, rfl⟩ := (closes_iff x).1 hCloses
    exact ⟨e, hx⟩
  · rintro ⟨e, he⟩
    exact ⟨_, he, (closes_iff _).2 ⟨e, rfl⟩⟩

theorem notClosing_iff (g : TransLog) : g.closing = false ↔ ∀ e, EntryStore.close e ∉ g.stores := by
  rw [← Bool.not_eq_true, closing_iff, not_exists]

theorem allAtRest_iff (q : Quad Dispenser) :
    (q.toList.all fun p => !p.state.filling && decide (p.state ≠ .authorized)) = true ↔
      ∀ d, (q.get d).state.filling = false ∧ (q.get d).state ≠ .authorized := by
  rw [List.all_eq_true]
  constructor
  · intro h d
    have hDisp := h _ (quad_mem_toList.2 ⟨d, rfl⟩)
    rwa [Bool.and_eq_true, Bool.not_eq_true', decide_eq_true_iff] at hDisp
  · intro h p hp
    obtain ⟨d, rfl⟩ := quad_mem_toList.1 hp
    rw [Bool.and_eq_true, Bool.not_eq_true', decide_eq_true_iff]
    exact h d

theorem resetDue_iff (s : State) :
    s.resetDue = true ↔
      s.sup.resetAsked = .answered ∧
        (s.sup.resetPending = false ∨
          ((∀ d, (s.disp d).state.filling = false ∧ (s.disp d).state ≠ .authorized) ∧
            ∀ e, EntryStore.close e ∉ s.log.stores)) := by
  unfold State.resetDue
  rw [Bool.and_eq_true, decide_eq_true_iff, Bool.or_eq_true, Bool.not_eq_true', Bool.and_eq_true, allAtRest_iff,
    Bool.not_eq_true', notClosing_iff]
  rfl

theorem stationReset_due (h : s.resetDue = true) : exec .stationReset s = .next (s.afterReset .station) :=
  congrArg Host.Outcome.next (if_pos h)

theorem stationReset_notDue (h : ¬ s.resetDue = true) : exec .stationReset s = .next s :=
  congrArg Host.Outcome.next (if_neg h)

/-! ## What every reset leaves (R22, R26, R30, R31, R57, R94, R106, R136, R165) -/

section

variable (s : State) (k : ResetKind)

theorem afterReset_chan (c : Channel) : (s.afterReset k).chan c = ⟨none, .invalid, 0, some (holdTime c), .notChecked⟩ := by
  cases c with
  | primary d | secondary d | outlet d | bank d => cases d <;> rfl
  | supply | ambient | precoolOutlet => rfl

theorem afterReset_switch (w : Switch) :
    (s.afterReset k).switch w = ⟨(s.switch w).pin, none, (s.switch w).pin, some 50⟩ := by
  cases w with
  | holder d | startButton d | stopButton d => exact quad_get_map _ _ d
  | esd | gasAlarm | sealIn => rfl

theorem afterReset_valve (v : Valve) :
    (s.afterReset k).valve v =
      ⟨.closed, ⟨(s.valve v).feedback.pin, none, (s.valve v).feedback.pin, some 50⟩, .ok, none, false⟩ := by
  cases v with
  | bv b d => exact (congrArg (fun q : Quad ValveRec => q.get d) (quad_get_map s.field.valves.bv _ b)).trans (quad_get_map _ _ d)
  | cv b => exact quad_get_map _ _ b
  | dv d => exact quad_get_map _ _ d

theorem afterReset_bank (b : Four) : (s.afterReset k).bank b = ⟨.ready, false, false, false, [], none⟩ := by
  cases b <;> rfl

end

/-- Settles O55: the three rows are `State.afterReset` of their kinds, STATION_RESET where `resetDue_iff` allows it. -/
theorem resetsLeaveWhatTheyKeep : Obligations.ResetsLeaveWhatTheyKeep := by
  intro s due
  have hDue : s.resetDue = true ↔ due := resetDue_iff s
  refine ⟨⟨_, rfl, rfl, rfl, rfl, rfl⟩, ⟨_, rfl, rfl, rfl, rfl, rfl⟩, fun i hi => ?_, fun h => ?_, fun h => ?_, ?_⟩
  · simp only [List.mem_cons, List.not_mem_nil, or_false] at hi
    rcases hi with rfl | rfl
    · exact ⟨_, rfl, rfl, rfl, rfl, rfl, rfl, rfl, rfl, rfl, rfl, rfl, rfl, rfl, rfl, rfl, rfl, rfl, rfl, rfl, rfl, rfl, rfl⟩
    · exact ⟨_, rfl, rfl, rfl, rfl, rfl, rfl, rfl, rfl, rfl, rfl, rfl, rfl, rfl, rfl, rfl, rfl, rfl, rfl, rfl, rfl, rfl, rfl⟩
  · exact ⟨_, stationReset_due (hDue.2 h), rfl, rfl, rfl, rfl, rfl, rfl, rfl, rfl, rfl, rfl, rfl, rfl, rfl, rfl, rfl, rfl, rfl⟩
  · exact stationReset_notDue fun hReset => h (hDue.1 hReset)
  · have hKind : ∀ i, i = Instr.powerOn ∨ i = .resetLine ∨ (i = .stationReset ∧ due) →
        ∃ k, exec i s = .next (s.afterReset k) := by
      rintro i (rfl | rfl | ⟨rfl, h⟩)
      · exact ⟨_, rfl⟩
      · exact ⟨_, rfl⟩
      · exact ⟨_, stationReset_due (hDue.2 h)⟩
    intro i t hi hExec
    obtain ⟨k, hReset⟩ := hKind i hi
    obtain rfl := Host.Outcome.next.inj (hExec.symm.trans hReset)
    exact ⟨afterReset_chan s k, rfl, rfl, afterReset_switch s k, afterReset_valve s k, rfl, rfl, rfl, rfl,
      afterReset_bank s k, rfl, rfl, rfl, rfl⟩

end Sys2Proof.Machine
end

section
/-!
PROOF. CFGWRITE: its answers and what a written item does at once, and the swap of station ranks (for O53).
-/

namespace Sys2Proof.Machine

variable {s u : State}

/-! ## The owner's answer (R188) -/

section

variable {group index item : Nat} {v : Word} {w : WorkConfig}

theorem writeConfigItem_bad {n : Nat} (h : writeConfig u.work group index item v = .inl n) :
    u.writeConfigItem group index item v = (u, badValue n) := by
  unfold State.writeConfigItem
  simp only [h]

theorem writeConfig_itemBad {n : Nat} (h : itemBad group index item = some n) (w : WorkConfig) (v : Word) :
    writeConfig w group index item v = .inl n := by
  unfold writeConfig
  simp only [writeChecks_of_itemBad v h]

theorem writeConfigItem_refused (h : writeConfig u.work group index item v = .inr w)
    (hTakes : u.takesWrite group index = false) :
    u.writeConfigItem group index item v = (u, notNow .state) := by
  unfold State.writeConfigItem
  simp only [h, hTakes]
  rfl

theorem writeConfigItem_rank {b : Four} (h : writeConfig u.work 2 index 1 v = .inr w)
    (hTakes : u.takesWrite 2 index = true) (hb : Four.ofNat? index = some b) :
    u.writeConfigItem 2 index 1 v = u.writeRank b v.toNat := by
  unfold State.writeConfigItem
  simp only [h, hTakes, hb]
  rfl

/-- The state with a new working configuration, before what the item does at once. -/
def State.configured (u : State) (w : WorkConfig) : State := { u with sup := { u.sup with work := w } }

theorem writeConfigItem_written (h : writeConfig u.work group index item v = .inr w)
    (hTakes : u.takesWrite group index = true) (hRank : ¬(group = 2 ∧ item = 1)) :
    u.writeConfigItem group index item v = ((u.configured w).afterWrite group item, okAnswer) := by
  unfold State.writeConfigItem
  simp only [h, hTakes, hRank]
  rfl

theorem takesWrite_bank (u : State) (k : Four) : u.takesWrite 2 (Four.field k).toNat = u.bankTakesWrite k := by
  cases k <;> rfl

theorem takesWrite_disp (u : State) (d : Four) :
    u.takesWrite 3 (Four.field d).toNat = (decide ((u.disp d).state = .closed) || decide ((u.disp d).state = .idle)) := by
  cases d <;> rfl

theorem takesWrite_other (u : State) (index : Nat) (hBank : group ≠ 2) (hDisp : group ≠ 3) :
    u.takesWrite group index = true := by
  unfold State.takesWrite
  split
  · exact absurd rfl hBank
  · exact absurd rfl hDisp
  · rfl

theorem afterWrite_other (u : State) (item : Nat) (hSite : group ≠ 1) (hPrecool : group ≠ 4) :
    u.afterWrite group item = u := by
  unfold State.afterWrite
  rw [if_neg hSite, if_neg hPrecool]

theorem afterWrite_precool (u : State) (item : Nat) :
    u.afterWrite 4 item = u.modPrecool fun p => { p with reserve := min p.reserve u.work.precool.eMax } := rfl

theorem afterWrite_link (u : State) (h : item = 1 ∨ item = 2) : u.afterWrite 1 item = u.restartSupervision := by
  unfold State.afterWrite
  rw [if_pos rfl, if_pos h]

theorem afterWrite_startLimit (u : State) : u.afterWrite 1 7 = u.startLimitChanged := rfl

theorem afterWrite_enable (u : State) {c : FaultCause} (hLink : ¬(item = 1 ∨ item = 2)) (hLimit : item ≠ 7)
    (h : enableCause item = some c) : u.afterWrite 1 item = u.enableChanged c := by
  unfold State.afterWrite
  rw [if_pos rfl, if_neg hLink, if_neg hLimit, h]
  rfl

theorem afterWrite_site (u : State) (hLink : ¬(item = 1 ∨ item = 2)) (hLimit : item ≠ 7)
    (h : enableCause item = none) : u.afterWrite 1 item = u := by
  unfold State.afterWrite
  rw [if_pos rfl, if_neg hLink, if_neg hLimit, h]
  rfl

end

/-! ## A bank that takes no write (R35, R36) -/

theorem bankTakesWrite_iff (u : State) (b : Four) :
    u.bankTakesWrite b = true ↔ (u.bank b).state = .ready ∨ (u.bank b).state = .isolated := by
  unfold State.bankTakesWrite
  rw [Bool.or_eq_true, decide_eq_true_iff, decide_eq_true_iff]

theorem dispTakesWrite_iff (u : State) (d : Four) :
    u.takesWrite 3 (Four.field d).toNat = true ↔ (u.disp d).state = .closed ∨ (u.disp d).state = .idle := by
  rw [takesWrite_disp, Bool.or_eq_true, decide_eq_true_iff, decide_eq_true_iff]

/-! ## An enable (R185) -/

theorem enableChanged_shuts {c : FaultCause} (hReady : u.sup.station = .ready) (hLatched : u.sup.latches.get c = true)
    (hEnabled : SiteCfg.enabled u.work.site c = true) : u.enableChanged c = u.take [.shutdown c] :=
  if_pos ⟨hReady, hLatched, hEnabled⟩

theorem enableChanged_quiet {c : FaultCause}
    (h : u.sup.station ≠ .ready ∨ u.sup.latches.get c = false ∨ SiteCfg.enabled u.work.site c = false) :
    u.enableChanged c = u := by
  refine if_neg fun hAll => ?_
  obtain ⟨hReady, hLatched, hEnabled⟩ := hAll
  rcases h with h | h | h
  · exact h hReady
  · exact absurd (h.symm.trans hLatched) (by decide)
  · exact absurd (h.symm.trans hEnabled) (by decide)

/-! ## N_s (R62) -/

/-- The start history cut to its newest `n` times. -/
def State.ringCut (u : State) (n : Nat) : State :=
  { u with comp := { u.comp with ring := u.comp.ring.drop (u.comp.ring.length - n) } }

theorem startLimitChanged_eq {n : Nat} (h : u.work.site.startLimit = n) :
    u.startLimitChanged =
      if u.comp.deferral.isNone then u.ringCut n
      else if (u.ringCut n).ringAllows then ((u.ringCut n).modComp fun c => { c with deferral := none }).evalStart
      else (u.ringCut n).modComp fun c => { c with deferral := some (u.ringCut n).deferralTime } := by
  subst h
  rfl

theorem ringAllows_iff (s : State) :
    s.ringAllows = true ↔
      s.comp.ring.length < s.work.site.startLimit ∨
        ∀ x, s.comp.ring.head? = some x → 3600 ≤ (s.link.clock - x).toNat := by
  unfold State.ringAllows startAge
  rw [Bool.or_eq_true, decide_eq_true_iff]
  cases s.comp.ring.head? <;> simp

/-! ## The swap of station ranks (R36) -/

section

variable (rank : Four → Nat)

theorem insertByRank_perm (b : Four) (l : List Four) : (insertByRank rank b l).Perm (b :: l) := by
  induction l with
  | nil => exact List.Perm.refl _
  | cons c rest ih =>
    unfold insertByRank
    split
    · exact List.Perm.refl _
    · exact (List.Perm.cons c ih).trans (List.Perm.swap b c rest)

theorem sortByRank_perm (l : List Four) : (sortByRank rank l).Perm l := by
  induction l with
  | nil => exact List.Perm.refl _
  | cons b rest ih => exact (insertByRank_perm rank b _).trans (List.Perm.cons b ih)

theorem insertByRank_sorted (b : Four) {l : List Four} (h : l.Pairwise fun x y => rank x ≤ rank y) :
    (insertByRank rank b l).Pairwise fun x y => rank x ≤ rank y := by
  induction l with
  | nil => exact List.pairwise_singleton _ b
  | cons c rest ih =>
    obtain ⟨hHead, hRest⟩ := List.pairwise_cons.1 h
    unfold insertByRank
    split
    · next hLess =>
      refine List.pairwise_cons.2 ⟨fun y hy => ?_, h⟩
      rcases List.mem_cons.1 hy with rfl | hy
      · exact Nat.le_of_lt hLess
      · exact (Nat.le_of_lt hLess).trans (hHead y hy)
    · next hNot =>
      refine List.pairwise_cons.2 ⟨fun y hy => ?_, ih hRest⟩
      rcases List.mem_cons.1 ((insertByRank_perm rank b rest).mem_iff.1 hy) with rfl | hy
      · exact Nat.not_lt.1 hNot
      · exact hHead y hy

theorem sortByRank_sorted (l : List Four) : (sortByRank rank l).Pairwise fun x y => rank x ≤ rank y := by
  induction l with
  | nil => exact List.Pairwise.nil
  | cons b rest ih => exact insertByRank_sorted rank b ih

end

theorem writeRank_same {b : Four} {r : Nat} (h : (u.bankCfg b).rank = r) : u.writeRank b r = (u, okAnswer) := if_pos h

/-- A rank that another bank holds: that bank, too, has to take a write, and no fill may be in progress. -/
theorem writeRank_moved {b k : Four} {r : Nat} (h : (u.bankCfg b).rank ≠ r)
    (hk : (Four.all.find? fun c => decide ((u.bankCfg c).rank = r)) = some k) :
    u.writeRank b r =
      if ¬u.bankTakesWrite k = true then (u, notNow .state)
      else if u.anyFilling then (u, notNow .filling)
      else (u.configured (swapRanks u.work b k), okAnswer) := by
  unfold State.writeRank
  rw [if_neg h]
  simp only [hk, Bool.not_eq_true', Bool.not_eq_true]
  rfl

theorem swapRanks_banks (w : WorkConfig) {b k : Four} (h : b ≠ k) (x : Four) :
    (swapRanks w b k).banks.get x =
      if x = b then { w.banks.get b with rank := (w.banks.get k).rank }
      else if x = k then { w.banks.get k with rank := (w.banks.get b).rank }
      else w.banks.get x := by
  have hBanks : (swapRanks w b k).banks =
      (w.banks.modify b fun c => { c with rank := (w.banks.get k).rank }).modify k fun c =>
        { c with rank := (w.banks.get b).rank } := rfl
  rw [hBanks, quad_get_modify, quad_get_modify]
  by_cases hb : x = b
  · subst hb
    rw [if_neg h, if_pos rfl, if_pos rfl]
  · rw [if_neg hb, if_neg hb]
    by_cases hk : x = k
    · subst hk
      rw [if_pos rfl]
    · rw [if_neg hk, if_neg hk]

theorem swapRanks_disp (w : WorkConfig) (b k d : Four) :
    (swapRanks w b k).disps.get d =
      { w.disps.get d with
        cascade := sortByRank (fun x => ((swapRanks w b k).banks.get x).rank) (w.disps.get d).cascade } :=
  quad_get_map w.disps _ d

end Sys2Proof.Machine
end

section
/-!
PROOF. The rows CFGWRITE, TARIFF WRITE, ACTSET and CFGSAVE with its store (O53).
-/

namespace Sys2Proof.Machine

variable {s u : State} {g : Byte}

/-! ## CFGWRITE (R188) -/

section

variable {a b c : Byte} {v : Word} {w : WorkConfig}

theorem cfgwrite_exec {t : State} {r : Answer} (h : s.Offers 0x10 g ([a, b, c] ++ word4 v) u)
    (ht : u.writeConfigItem a.toNat b.toNat c.toNat v = (t, r)) :
    exec (.cfgwrite g a b c v) s = .next (t.sendReply r) := by
  change execCfgwrite g a b c v s = _
  rw [cfgwrite_offered h, ht]

/-- A write that is taken, of an item that its group does not write as a swap. -/
theorem cfgwrite_taken {t : State} (h : s.Offers 0x10 g ([a, b, c] ++ word4 v) u)
    (hWrite : writeConfig u.work a.toNat b.toNat c.toNat v = .inr w) (hTakes : u.takesWrite a.toNat b.toNat = true)
    (hRank : ¬(a.toNat = 2 ∧ c.toNat = 1)) (ht : (u.configured w).afterWrite a.toNat c.toNat = t) :
    exec (.cfgwrite g a b c v) s = .next (t.sendReply ⟨.ok, 0, .none⟩) :=
  cfgwrite_exec h ((writeConfigItem_written hWrite hTakes hRank).trans (congrArg (·, okAnswer) ht))

/-- A SITE item that is taken reads the value written (R188). -/
theorem site_written {index item : Nat} (h : writeConfig u.work 1 index item v = .inr w) :
    (siteItem item).map (·.read w.site) = some v.toInt := by
  obtain ⟨good, hRange, hGood⟩ := valueRange_of_write h
  exact readsBack_site (writeConfig_group h) hRange hGood

theorem toNat_of_toInt {v : Word} {n : Nat} (h : (n : Int) = v.toInt) : v.toNat = n := by
  rw [BitVec.toInt_eq_toNat_cond] at h
  split at h <;> omega

theorem startLimit_written {index : Nat} (h : writeConfig u.work 1 index 7 v = .inr w) :
    w.site.startLimit = v.toNat :=
  (toNat_of_toInt (Option.some.inj (site_written h))).symm

/-- The SITE items that are shutdown enables, each with its cause (R188). -/
def enableItems : List (Byte × FaultCause) :=
  [(19, .gasAlarm), (20, .valveStuckOpen), (21, .bankOverpressure), (22, .metrology), (23, .compressor)]

theorem enable_of_mem {k : FaultCause} (h : (c, k) ∈ enableItems) :
    enableCause c.toNat = some k ∧ ¬(c.toNat = 1 ∨ c.toNat = 2) ∧ c.toNat ≠ 7 := by
  unfold enableItems at h
  simp only [List.mem_cons, Prod.mk.injEq, List.not_mem_nil, or_false] at h
  rcases h with ⟨rfl, rfl⟩ | ⟨rfl, rfl⟩ | ⟨rfl, rfl⟩ | ⟨rfl, rfl⟩ | ⟨rfl, rfl⟩ <;> exact ⟨rfl, by decide, by decide⟩

/-- An enable written is 1 where its value is 1. -/
theorem enabled_written {index : Nat} {k : FaultCause} (hk : (c, k) ∈ enableItems)
    (h : writeConfig u.work 1 index c.toNat v = .inr w) : (SiteCfg.enabled w.site k).toNat = v.toInt := by
  have hRead := site_written h
  unfold enableItems at hk
  simp only [List.mem_cons, Prod.mk.injEq, List.not_mem_nil, or_false] at hk
  rcases hk with ⟨rfl, rfl⟩ | ⟨rfl, rfl⟩ | ⟨rfl, rfl⟩ | ⟨rfl, rfl⟩ | ⟨rfl, rfl⟩ <;> exact Option.some.inj hRead

theorem enabled_one {index : Nat} {k : FaultCause} (hk : (c, k) ∈ enableItems)
    (h : writeConfig u.work 1 index c.toNat 1 = .inr w) : SiteCfg.enabled w.site k = true := by
  have hValue := enabled_written hk h
  cases hEnabled : SiteCfg.enabled w.site k
  · rw [hEnabled] at hValue
    exact absurd hValue (by decide)
  · rfl

theorem enabled_zero {index : Nat} {k : FaultCause} (hk : (c, k) ∈ enableItems)
    (h : writeConfig u.work 1 index c.toNat 0 = .inr w) : SiteCfg.enabled w.site k = false := by
  have hValue := enabled_written hk h
  cases hEnabled : SiteCfg.enabled w.site k
  · rfl
  · rw [hEnabled] at hValue
    exact absurd hValue (by decide)

/-- Items 3 to 18 but N_s do nothing more at once (R188). -/
theorem enableCause_none {n : Nat} (h : n < 19) : enableCause n = none := by
  unfold enableCause
  split
  case h_6 => rfl
  all_goals omega

/-- What an item written in SITE does at once. -/
theorem cfgwrite_site {t : State} {index : Byte} (h : s.Offers 0x10 g ([1, index, c] ++ word4 v) u)
    (hWrite : writeConfig u.work 1 index.toNat c.toNat v = .inr w) (ht : (u.configured w).afterWrite 1 c.toNat = t) :
    exec (.cfgwrite g 1 index c v) s = .next (t.sendReply ⟨.ok, 0, .none⟩) :=
  cfgwrite_taken h hWrite (takesWrite_other u _ (by decide) (by decide)) (fun hRank => absurd hRank.1 (by decide)) ht

end

/-! ## TARIFF WRITE (R153) -/

theorem tariffWrite_offered {c : Byte} {hp mp : Word} (hCode : c.toNat ≤ 7) (hHp : hp.toNat ≤ 999999)
    (hMp : mp.toNat ≤ 999999) (h : s.Offers 0x13 g ([c] ++ word4 hp ++ word4 mp) u) :
    exec (.tariffWrite g c hp mp) s = .next ((u.writeTariff c.toNat hp.toNat mp.toNat).sendReply okAnswer) := by
  have hChecks : firstBad (fieldChecks (0x13 : Byte).toNat ([c] ++ word4 hp ++ word4 mp)) = none := by
    change firstBad [(1, between 0 7 (fieldAt (c :: (word4 hp ++ word4 mp)) 0 1)),
      (2, between 0 999999 (fieldAt (c :: (word4 hp ++ word4 mp)) 1 4)),
      (3, between 0 999999 (fieldAt (c :: (word4 hp ++ word4 mp)) 5 4))] = _
    rw [fieldAt_first, fieldAt_word4_one, fieldAt_word4_five, firstBad_good (between_eq_true.2 ⟨Nat.zero_le _, hCode⟩),
      firstBad_good (between_eq_true.2 ⟨Nat.zero_le _, hHp⟩), firstBad_good (between_eq_true.2 ⟨Nat.zero_le _, hMp⟩)]
    rfl
  exact congrArg Host.Outcome.next
    (takeRequest_answering (f := fun t => (t.writeTariff c.toNat hp.toNat mp.toNat, okAnswer)) h rfl hChecks rfl)

/-! ## ACTSET (R185, R186) -/

theorem faultCauseOf_code (k : FaultCause) : faultCauseOf k.code = some k := by cases k <;> rfl

theorem esd_of_code {k : FaultCause} (h : k.code = 1) : k = .esd := by
  cases k with
  | esd => rfl
  | gasAlarm | valveStuckOpen | bankOverpressure | metrology | compressor => exact absurd h (by decide)

theorem enabled_setEnable (site : SiteCfg) (k j : FaultCause) {v : Bool} (hEsd : k = .esd → v = true) :
    SiteCfg.enabled (setEnable site k v) j = if j = k then v else SiteCfg.enabled site j := by
  cases k with
  | esd =>
    rw [hEsd rfl]
    cases j <;> rfl
  | gasAlarm | valveStuckOpen | bankOverpressure | metrology | compressor => cases j <;> rfl

theorem setEnable_frame (site : SiteCfg) (k : FaultCause) (v : Bool) :
    setEnable site k v =
      { site with
        enGas := (setEnable site k v).enGas, enValve := (setEnable site k v).enValve,
        enOver := (setEnable site k v).enOver, enMetro := (setEnable site k v).enMetro,
        enComp := (setEnable site k v).enComp } := by cases k <;> rfl

/-- The state with an enable set, before what that does at once. -/
def State.enableSet (u : State) (k : FaultCause) (v : Bool) : State :=
  u.configured { u.work with site := setEnable u.work.site k v }

theorem actset_offered {c v : Byte} {k : FaultCause} (hk : k.code = c.toNat) (hv : v.toNat ≤ 1) (hEsd : k = .esd → v = 1)
    (h : s.Offers 0x07 g [c, v] u) :
    exec (.actset g c v) s = .next (((u.enableSet k (decide (v = 1))).enableChanged k).sendReply okAnswer) := by
  have hCode : 1 ≤ c.toNat ∧ c.toNat ≤ 6 := by rw [← hk]; cases k <;> decide
  have hLow : (if c.toNat = 1 then 1 else 0) ≤ v.toNat := by
    split
    · next hOne =>
      rw [hEsd (esd_of_code (hk.trans hOne))]
      decide
    · exact Nat.zero_le _
  have hChecks : firstBad (fieldChecks (0x07 : Byte).toNat [c, v]) = none := by
    change firstBad [(1, between 1 6 (fieldAt [c, v] 0 1)),
      (2, between (if fieldAt [c, v] 0 1 = 1 then 1 else 0) 1 (fieldAt [c, v] 1 1))] = _
    rw [fieldAt_first c [v], fieldAt_second c v [], firstBad_good (between_eq_true.2 hCode),
      firstBad_good (between_eq_true.2 ⟨hLow, hv⟩)]
    rfl
  refine congrArg Host.Outcome.next (takeRequest_answering h rfl hChecks ?_)
  rw [← hk, faultCauseOf_code]
  rfl

theorem actset_quiet {c v : Byte} {k : FaultCause} (hk : k.code = c.toNat) (hv : v.toNat ≤ 1) (hEsd : k = .esd → v = 1)
    (h : s.Offers 0x07 g [c, v] u)
    (hQuiet : u.sup.station ≠ .ready ∨ u.sup.latches.get k = false ∨ v = 0) :
    exec (.actset g c v) s = .next ((u.enableSet k (decide (v = 1))).sendReply okAnswer) := by
  have hOne : k = .esd → decide (v = 1) = true := fun hIs => decide_eq_true (hEsd hIs)
  rw [actset_offered hk hv hEsd h, enableChanged_quiet]
  refine hQuiet.imp_right (Or.imp_right fun hZero => ?_)
  refine (enabled_setEnable u.work.site k k hOne).trans ((if_pos rfl).trans (decide_eq_false ?_))
  rw [hZero]
  decide

theorem actset_shuts {c : Byte} {k : FaultCause} (hk : k.code = c.toNat) (h : s.Offers 0x07 g [c, 1] u)
    (hReady : u.sup.station = .ready) (hLatched : u.sup.latches.get k = true) :
    exec (.actset g c 1) s = .next (((u.enableSet k true).take [.shutdown k]).sendReply okAnswer) := by
  rw [actset_offered hk (by decide) (fun _ => rfl) h]
  exact congrArg (fun t : State => Host.Outcome.next (t.sendReply okAnswer)) (enableChanged_shuts hReady hLatched
    ((enabled_setEnable u.work.site k k fun _ => rfl).trans (if_pos rfl)))

/-- A shutdown ordered: the station is in SHUTDOWN, its configuration and the request in service as they were. -/
theorem take_shutdown_spec (s : State) (c : FaultCause) :
    (s.take [.shutdown c]).sup.station = .shutdown ∧ (s.take [.shutdown c]).work = s.work ∧
      (s.take [.shutdown c]).link.buffer = s.link.buffer := by
  have hKept : Kept (s.shutdown c).1 (s.take [.shutdown c]) := kept_runTasks 999 _ _ (Kept.refl _)
  obtain ⟨hStill, -, -, -, hShutdown⟩ := hKept
  refine ⟨hShutdown rfl, congrArg (fun x => x.2.2.2.2.1.2.2.1) hStill, ?_⟩
  exact (congrArg (fun x => x.2.1.2.2.1) hStill).trans (post_buffer s.link _ _ _)

/-! ## CFGSAVE (R189) -/

theorem cfgsave_offered (h : s.Offers 0x12 g [] u) :
    exec (.cfgsave g) s =
      .next { u with
        sup := { u.sup with saving := some u.work },
        link := { u.link with buffer := some ⟨0x12, g, [], .storing⟩ } } := by
  refine congrArg Host.Outcome.next ((takeRequest_offered _ h rfl rfl).trans ((serveRequest_storing rfl).trans ?_))
  have hBuffer := Offers.buffer h
  unfold State.modLink State.modSup
  dsimp only
  rw [hBuffer]
  rfl

theorem cfgsaveStoreComplete_saving {w : WorkConfig} (h : s.sup.saving = some w) :
    exec .cfgsaveStoreComplete s =
      .next (State.sendReply
        { s with sup := { s.sup with
          store := ⟨w, crc16 (Config.storeImage w)⟩, saving := none, configDefaulted := false } } okAnswer) := by
  change execCfgsaveStoreComplete s = _
  unfold execCfgsaveStoreComplete State.modSup
  simp only [h]

end Sys2Proof.Machine
end

section
/-!
PROOF. The configuration written and saved (O53).
-/

namespace Sys2Proof.Machine

variable {s u : State} {g : Byte}

/-! ## CFGWRITE by group (R12, R35, R62, R77, R107, R185, R188) -/

section

variable {b c : Byte} {v : Word} {w : WorkConfig}

theorem cfgwrite_link (h : s.Offers 0x10 g ([1, b, c] ++ word4 v) u)
    (hWrite : writeConfig u.work 1 b.toNat c.toNat v = .inr w) (hc : c = 1 ∨ c = 2) :
    exec (.cfgwrite g 1 b c v) s =
      .next (State.sendReply
        { u.configured w with link := { u.link with
          supervision := if w.site.linkTimeout = 0 then .off else .watching,
          supTimer := if w.site.linkTimeout = 0 then none else some (w.site.linkTimeout * 1000) } }
        ⟨.ok, 0, .none⟩) := by
  have hItem : c.toNat = 1 ∨ c.toNat = 2 := hc.imp (congrArg BitVec.toNat) (congrArg BitVec.toNat)
  exact cfgwrite_site h hWrite ((afterWrite_link _ hItem).trans (restartSupervision_eq _))

theorem cfgwrite_plainSite (h : s.Offers 0x10 g ([1, b, c] ++ word4 v) u)
    (hWrite : writeConfig u.work 1 b.toNat c.toNat v = .inr w) (hLow : 3 ≤ c.toNat) (hLimit : c.toNat ≠ 7)
    (hHigh : c.toNat < 19) :
    exec (.cfgwrite g 1 b c v) s = .next ((u.configured w).sendReply ⟨.ok, 0, .none⟩) :=
  cfgwrite_site h hWrite (afterWrite_site _ (by omega) hLimit (enableCause_none hHigh))

theorem cfgwrite_enable {k : FaultCause} (h : s.Offers 0x10 g ([1, b, c] ++ word4 v) u)
    (hWrite : writeConfig u.work 1 b.toNat c.toNat v = .inr w) (hk : (c, k) ∈ enableItems) :
    (u.sup.station = .ready → u.sup.latches.get k = true → v = 1 →
      exec (.cfgwrite g 1 b c v) s = .next (((u.configured w).take [.shutdown k]).sendReply ⟨.ok, 0, .none⟩)) ∧
    (u.sup.station ≠ .ready ∨ u.sup.latches.get k = false ∨ v = 0 →
      exec (.cfgwrite g 1 b c v) s = .next ((u.configured w).sendReply ⟨.ok, 0, .none⟩)) := by
  obtain ⟨hCause, hLink, hLimit⟩ := enable_of_mem hk
  have hAfter := afterWrite_enable (u.configured w) hLink hLimit hCause
  refine ⟨fun hReady hLatched hOne => ?_, fun hQuiet => ?_⟩
  · subst hOne
    exact cfgwrite_site h hWrite (hAfter.trans
      (enableChanged_shuts (u := u.configured w) hReady hLatched (enabled_one hk hWrite)))
  · refine cfgwrite_site h hWrite (hAfter.trans
      (enableChanged_quiet (u := u.configured w) (hQuiet.imp_right (Or.imp_right fun hZero => ?_))))
    subst hZero
    exact enabled_zero hk hWrite

theorem cfgwrite_startLimit (h : s.Offers 0x10 g ([1, b, 7] ++ word4 v) u)
    (hWrite : writeConfig u.work 1 b.toNat 7 v = .inr w) {t : State} (ht : (u.configured w).startLimitChanged = t) :
    exec (.cfgwrite g 1 b 7 v) s = .next (t.sendReply ⟨.ok, 0, .none⟩) :=
  cfgwrite_site h hWrite ((afterWrite_startLimit _).trans ht)

/-- A start limit written while a start is deferred: over, or recomputed from the ring (R62). -/
theorem startLimitChanged_deferred {n : Nat} (hLimit : u.work.site.startLimit = n) (hDeferred : u.comp.deferral ≠ none) :
    ((u.ringCut n).ringAllows = true →
      u.startLimitChanged = ((u.ringCut n).modComp fun c => { c with deferral := none }).evalStart) ∧
    ((u.ringCut n).ringAllows = false →
      u.startLimitChanged = (u.ringCut n).modComp fun c => { c with deferral := some (u.ringCut n).deferralTime }) := by
  have hSome : ¬u.comp.deferral.isNone = true := fun hNone => hDeferred (Option.isNone_iff_eq_none.1 hNone)
  rw [startLimitChanged_eq hLimit, if_neg hSome]
  exact ⟨fun hAllows => if_pos hAllows, fun hNot => if_neg (Bool.eq_false_iff.1 hNot)⟩

theorem cfgwrite_bank {k : Four} (h : s.Offers 0x10 g ([2, Four.field k, c] ++ word4 v) u)
    (hWrite : writeConfig u.work 2 (Four.field k).toNat c.toNat v = .inr w) (hc : c ≠ 1)
    (hState : (u.bank k).state = .ready ∨ (u.bank k).state = .isolated) :
    exec (.cfgwrite g 2 (Four.field k) c v) s = .next ((u.configured w).sendReply ⟨.ok, 0, .none⟩) :=
  cfgwrite_taken h hWrite ((takesWrite_bank u k).trans ((bankTakesWrite_iff u k).2 hState))
    (fun hRank => hc ((byte_one c).2 hRank.2)) (afterWrite_other _ _ (by decide) (by decide))

theorem cfgwrite_disp {d : Four} (h : s.Offers 0x10 g ([3, Four.field d, c] ++ word4 v) u)
    (hWrite : writeConfig u.work 3 (Four.field d).toNat c.toNat v = .inr w)
    (hState : (u.disp d).state = .closed ∨ (u.disp d).state = .idle) :
    exec (.cfgwrite g 3 (Four.field d) c v) s = .next ((u.configured w).sendReply ⟨.ok, 0, .none⟩) :=
  cfgwrite_taken h hWrite ((dispTakesWrite_iff u d).2 hState) (fun hRank => absurd hRank.1 (by decide))
    (afterWrite_other _ _ (by decide) (by decide))

theorem cfgwrite_precool (h : s.Offers 0x10 g ([4, b, c] ++ word4 v) u)
    (hWrite : writeConfig u.work 4 b.toNat c.toNat v = .inr w) :
    exec (.cfgwrite g 4 b c v) s =
      .next (State.sendReply
        { u.configured w with precool := { u.precool with reserve := min u.precool.reserve w.precool.eMax } }
        ⟨.ok, 0, .none⟩) :=
  cfgwrite_taken h hWrite (takesWrite_other u _ (by decide) (by decide)) (fun hRank => absurd hRank.1 (by decide))
    (afterWrite_precool _ _)

theorem cfgwrite_higher {a : Byte} (h : s.Offers 0x10 g ([a, b, c] ++ word4 v) u)
    (hWrite : writeConfig u.work a.toNat b.toNat c.toNat v = .inr w) (ha : 5 ≤ a.toNat) :
    exec (.cfgwrite g a b c v) s = .next ((u.configured w).sendReply ⟨.ok, 0, .none⟩) :=
  cfgwrite_taken h hWrite (takesWrite_other u _ (by omega) (by omega)) (fun hRank => by omega)
    (afterWrite_other _ _ (by omega) (by omega))

theorem cfgwrite_rank {k : Four} {t : State} {r : Answer} (h : s.Offers 0x10 g ([2, Four.field k, 1] ++ word4 v) u)
    (hWrite : writeConfig u.work 2 (Four.field k).toNat 1 v = .inr w)
    (hState : (u.bank k).state = .ready ∨ (u.bank k).state = .isolated) (ht : u.writeRank k v.toNat = (t, r)) :
    exec (.cfgwrite g 2 (Four.field k) 1 v) s = .next (t.sendReply r) := by
  have hTakes : u.takesWrite 2 (Four.field k).toNat = true :=
    (takesWrite_bank u k).trans ((bankTakesWrite_iff u k).2 hState)
  have hNamed : Four.ofNat? (Four.field k).toNat = some k := namedFour_field k
  exact cfgwrite_exec h ((writeConfigItem_rank hWrite hTakes hNamed).trans ht)

end

/-! ## The obligation, part by part -/

/-- N_s written: the start history is cut, and a deferred start is evaluated or deferred afresh (R62). -/
theorem startLimit_takesEffect {a b c : Byte} {v : Word} {w : WorkConfig} (h : s.Offers 0x10 g ([a, b, c] ++ word4 v) u)
    (hWrite : writeConfig u.work a.toNat b.toNat c.toNat v = .inr w) (ha : a = 1) (hc : c = 7) :
    let cut := (u.configured w).ringCut v.toNat
    let allows := cut.comp.ring.length < v.toNat ∨
      ∀ x, cut.comp.ring.head? = some x → 3600 ≤ (u.link.clock - x).toNat
    (u.comp.deferral = none → exec (.cfgwrite g a b c v) s = .next (cut.sendReply ⟨.ok, 0, .none⟩)) ∧
    (u.comp.deferral ≠ none → allows →
      exec (.cfgwrite g a b c v) s =
        .next ((State.evalStart { cut with comp := { cut.comp with deferral := none } }).sendReply ⟨.ok, 0, .none⟩)) ∧
    (∀ x, u.comp.deferral ≠ none → ¬allows → cut.comp.ring.head? = some x →
      exec (.cfgwrite g a b c v) s =
        .next (State.sendReply
          { cut with comp := { cut.comp with deferral := some ((3600 - (u.link.clock - x).toNat) * 1000) } }
          ⟨.ok, 0, .none⟩)) := by
  subst ha hc
  intro cut allows
  have hLimit : (u.configured w).work.site.startLimit = v.toNat := startLimit_written hWrite
  have hAllows : cut.ringAllows = true ↔ allows := by
    have hIff := ringAllows_iff cut
    have hCut : cut.work.site.startLimit = v.toNat := hLimit
    rwa [hCut] at hIff
  refine ⟨fun hNone => ?_, fun hSome hYes => ?_, fun x hSome hNot hx => ?_⟩
  · refine cfgwrite_startLimit h hWrite ((startLimitChanged_eq hLimit).trans (if_pos ?_))
    exact Option.isNone_iff_eq_none.2 hNone
  · exact cfgwrite_startLimit h hWrite
      ((startLimitChanged_deferred (u := u.configured w) hLimit hSome).1 (hAllows.2 hYes))
  · have hTime : cut.deferralTime = (3600 - (u.link.clock - x).toNat) * 1000 := by
      unfold State.deferralTime
      rw [hx]
      rfl
    have hRefused : cut.ringAllows = false := Bool.eq_false_iff.2 fun hYes => hNot (hAllows.1 hYes)
    refine cfgwrite_startLimit h hWrite
      (((startLimitChanged_deferred (u := u.configured w) hLimit hSome).2 hRefused).trans ?_)
    exact congrArg (fun n => cut.modComp fun c => { c with deferral := some n }) hTime

/-- The swap that a rank write makes (R36). -/
theorem swapRanks_spec {b k : Four} {n : Nat} (hMoved : (u.bankCfg b).rank ≠ n) (hHolds : (u.bankCfg k).rank = n) :
    (swapRanks u.work b k).banks.get b = { u.bankCfg b with rank := n } ∧
      (swapRanks u.work b k).banks.get k = { u.bankCfg k with rank := (u.bankCfg b).rank } ∧
      (∀ x, x ≠ b → x ≠ k → (swapRanks u.work b k).banks.get x = u.bankCfg x) ∧
      ∀ d, (swapRanks u.work b k).disps.get d =
          { u.dispCfg d with cascade := ((swapRanks u.work b k).disps.get d).cascade } ∧
        ((swapRanks u.work b k).disps.get d).cascade.Perm (u.dispCfg d).cascade ∧
        ((swapRanks u.work b k).disps.get d).cascade.Pairwise fun x y =>
          ((swapRanks u.work b k).banks.get x).rank ≤ ((swapRanks u.work b k).banks.get y).rank := by
  have hOther : b ≠ k := fun hSame => hMoved (hSame ▸ hHolds)
  subst hHolds
  refine ⟨(swapRanks_banks u.work hOther b).trans (if_pos rfl), ?_, fun x hb hk => ?_, fun d => ⟨?_, ?_, ?_⟩⟩
  · rw [swapRanks_banks u.work hOther, if_neg hOther.symm, if_pos rfl]
    rfl
  · rw [swapRanks_banks u.work hOther, if_neg hb, if_neg hk]
    rfl
  · rw [swapRanks_disp]
    rfl
  · rw [swapRanks_disp]
    exact sortByRank_perm _ _
  · rw [swapRanks_disp]
    exact sortByRank_sorted _ _

/-- Settles O53: the answers of CFGWRITE, TARIFF WRITE, ACTSET and CFGSAVE, what each item does at once, and the swap of
station ranks. -/
theorem configurationIsWrittenAndSaved : Obligations.ConfigurationIsWrittenAndSaved := by
  refine ⟨fun s u g => ?_, fun s u g a b c v w h hItem hWrite => ?_, fun s u g b k v w' h hItem hWrite hFind hState => ?_⟩
  · intro ok
    refine ⟨fun a b c v h => ⟨fun n hBad => ?_, fun hItem => ⟨fun n hBad => ?_, fun w hWrite => ⟨?_, ?_, ?_⟩⟩⟩,
      fun c hp mp hCode hHp hMp h => tariffWrite_offered hCode hHp hMp h, fun v hv h => ⟨fun hQuiet => ?_, ?_⟩,
      fun c v k hk hv hEsd h => ?_, cfgsave_offered, fun w => cfgsaveStoreComplete_saving⟩
    · exact cfgwrite_exec h (writeConfigItem_bad (writeConfig_itemBad hBad _ _))
    · exact cfgwrite_exec h (writeConfigItem_bad hBad)
    · rintro d rfl rfl hClosed hIdle
      refine cfgwrite_exec h (writeConfigItem_refused hWrite (Bool.eq_false_iff.2 fun hTakes => ?_))
      exact ((dispTakesWrite_iff u d).1 hTakes).elim hClosed hIdle
    · rintro k rfl rfl hReady hIsolated
      refine cfgwrite_exec h (writeConfigItem_refused hWrite ((takesWrite_bank u k).trans (Bool.eq_false_iff.2 fun hTakes => ?_)))
      exact ((bankTakesWrite_iff u k).1 hTakes).elim hReady hIsolated
    · exact fun ha => cfgwrite_higher h hWrite ha
    · exact actset_quiet (k := .compressor) rfl hv (fun hEsd => by cases hEsd) h hQuiet
    · rintro hReady hLatched rfl
      obtain ⟨hShut, hWork, hBuffer⟩ := take_shutdown_spec (u.enableSet .compressor true) .compressor
      refine ⟨_, actset_shuts (k := .compressor) rfl h hReady hLatched, hShut, congrArg (fun w => w.site.enComp) hWork, ?_⟩
      exact replies_sendReply (v := .waiting) _ (hBuffer.trans (Offers.buffer (u := u) h))
    · have hOne : k = .esd → decide (v = 1) = true := fun hIs => decide_eq_true (hEsd hIs)
      refine ⟨setEnable u.work.site k (decide (v = 1)), fun j => enabled_setEnable _ k j hOne, setEnable_frame _ k _,
        actset_quiet hk hv hEsd h, ?_⟩
      rintro hReady hLatched rfl
      exact actset_shuts hk h hReady hLatched
  · refine ⟨?_, ?_, ?_, fun ha hc => startLimit_takesEffect h hWrite ha hc, ?_, ?_, ?_⟩
    · rintro rfl hc
      exact cfgwrite_link h hWrite hc
    · rintro rfl hLow hLimit hHigh
      exact cfgwrite_plainSite h hWrite hLow hLimit hHigh
    · rintro k rfl hk
      exact cfgwrite_enable h hWrite hk
    · rintro k rfl rfl hc hState
      exact cfgwrite_bank h hWrite hc hState
    · rintro d rfl rfl hState
      exact cfgwrite_disp h hWrite hState
    · rintro rfl
      exact cfgwrite_precool h hWrite
  · have hFound := List.find?_some hFind
    have hHolds : (u.bankCfg k).rank = v.toNat := of_decide_eq_true hFound
    have hRow {t : State} {r : Answer} (ht : u.writeRank b v.toNat = (t, r)) := cfgwrite_rank h hWrite hState ht
    refine ⟨fun hSame => hRow (writeRank_same (not_not.1 hSame)), fun hMoved hFree => ?_, fun hMoved hFree hFill => ?_,
      fun hMoved hFree hRest => ?_⟩
    · exact hRow ((writeRank_moved hMoved hFind).trans (if_pos fun hTakes => hFree ((bankTakesWrite_iff u k).1 hTakes)))
    · refine hRow ((writeRank_moved hMoved hFind).trans ((if_neg ?_).trans (if_pos hFill)))
      exact not_not_intro ((bankTakesWrite_iff u k).2 hFree)
    · have hSwap : u.writeRank b v.toNat = (u.configured (swapRanks u.work b k), okAnswer) := by
        refine (writeRank_moved hMoved hFind).trans ((if_neg ?_).trans (if_neg (Bool.eq_false_iff.1 hRest)))
        exact not_not_intro ((bankTakesWrite_iff u k).2 hFree)
      exact ⟨_, hRow hSwap, rfl, swapRanks_spec hMoved hHolds⟩

end Sys2Proof.Machine
end
